-- ==== Sys2Proof/Word.lean ====
section
/-! DEFINITION. The words of the plant bus, the straps and the configuration memory, and the counting
arithmetic of 00_scope section 1.6. Quantities that the manual only counts are plain `Nat`. -/

namespace Sys2Proof

/-- One byte of a frame or of the configuration block (10, section 11.4). -/
abbrev Byte := BitVec 8

/-- An 11-bit identifier of the plant bus (R129). -/
abbrev Ident := BitVec 11

/-- A saturating counter holds 0-255: it counts up by one and stops at 255 (00, section 1.6). -/
def satInc (n : Nat) : Nat := if n < 255 then n + 1 else 255

/-- Counting up by one and stopping at `top`. -/
def incTo (top n : Nat) : Nat := if n < top then n + 1 else top

end Sys2Proof
end

