-- ==== Sys2Proof/Config.lean ====
section
/-! DEFINITION. What is fixed for a station: the names of its channels, valves and inputs, the shape of
a received frame and of the working configuration, and the FREE VALUES that the manual leaves open. -/

namespace Sys2Proof

/-- The six analog channels, channel 0 to channel 5 (02, section 3.1). -/
inductive ChannelId where
  | dp | flow | outletTurbidity | wasteTurbidity | chlorine | ph
  deriving DecidableEq, Repr

/-- The channel's number (02, section 3.1). -/
def ChannelId.index : ChannelId → Nat
  | .dp => 0 | .flow => 1 | .outletTurbidity => 2 | .wasteTurbidity => 3 | .chlorine => 4 | .ph => 5

def ChannelId.all : List ChannelId := [.dp, .flow, .outletTurbidity, .wasteTurbidity, .chlorine, .ph]

/-- The six valve channels (03, section 4.1). -/
inductive ValveId where
  | inlet | outlet | washIn | washOut | rinse | air
  deriving DecidableEq, Repr

def ValveId.all : List ValveId := [.inlet, .outlet, .washIn, .washOut, .rinse, .air]

/-- The two limit switches of a valve, named by the position at which each is made (03, section 4.2). -/
inductive Position where
  | opened | closed
  deriving DecidableEq, Repr

/-- The opposite position. -/
def Position.other : Position → Position
  | .opened => .closed
  | .closed => .opened

/-- The five discrete inputs beside the limit switches (R155). -/
inductive DiscreteInput where
  | manualWash | inhibitKey | tankLow | flowOk | doseFb
  deriving DecidableEq, Repr

/-- A frame as it arrives from the plant bus (R128, R130): an extended identifier and the mark of a data
request are what step 1 of R130 judges. -/
structure RxFrame where
  extended    : Bool
  dataRequest : Bool
  ident       : Ident
  data        : List Byte
  deriving DecidableEq, Repr

/-- The working configuration: the fields of R164 but for the layout version, in its order. -/
structure WorkingConfig where
  qref              : Nat
  qmin              : Nat
  dpSpan            : Nat
  flowSpan          : Nat
  turbiditySpan     : Nat
  chlorineSpan      : Nat
  d0Default         : Nat
  dlim              : Nat
  loadingTrigger    : Nat
  loadingHold       : Nat
  breakthroughLimit : Nat
  breakthroughHold  : Nat
  maxRun            : Nat
  washFlow          : Nat
  drainCapacity     : Nat
  groupMinimum      : Nat
  contestWindow     : Nat
  claimLapse        : Nat
  travelTimeout     : Nat
  drainDownTime     : Nat
  airScourTime      : Nat
  backwashMin       : Nat
  backwashMax       : Nat
  wasteClearLevel   : Nat
  settleTime        : Nat
  rinseTime         : Nat
  sampleHolder      : Nat
  setpoint          : Nat
  baseDose          : Nat
  trimGain          : Nat
  maxDose           : Nat
  highCut           : Nat
  phLow             : Nat
  phHigh            : Nat
  strength          : Nat
  strokeVolume      : Nat
  minStrokeInterval : Nat
  strokeWidth       : Nat
  deriving DecidableEq, Repr

/-- FREE VALUE (log 7): the tick of ten at which a channel converts, "fixed from the start of scanning
until the next reset and … not otherwise given" (R33); the first argument is the serial of the scanning's
start, the second the channel's number. Used modulo 10. -/
opaque Config.scanPhase : Nat → Nat → Nat

/-- FREE VALUE (log 5): the place at which an event that falls due at a tick goes among the others of
that tick. The first argument is the tick's serial, the second the event's number in the tick. -/
opaque Config.tickOrder : Nat → Nat → Nat

/-- FREE VALUE (log 26): whether, at a tick that is a second tick, the pacer's count comes after the
recompute of that second tick (R120 allows either). The argument is the tick's serial. -/
opaque Config.pacerLate : Nat → Bool

end Sys2Proof
end

