-- ==== Sys2Proof/Syntax.lean ====
section
/-! DEFINITION. The commands: one constructor for each row of spec/opcode_table.json, with its operands.
Every row's summary stands in the table; the rule in each docstring is the row's own. -/

namespace Sys2Proof

/-- A command: an event of the table, taken whole (95). -/
inductive Instr where
  /-- R159: the supply rises into its range; the eight strap pins read then (ST0 is bit 0, GP2 bit 7). -/
  | powerReset (straps : BitVec 8)
  /-- R159: RESET_N is asserted and then released; the strap pins read then. -/
  | lineReset (straps : BitVec 8)
  /-- R162: the configuration read ends: whether the memory acknowledged the device select in the write
  direction, the word address and the device select in the read direction, and the bytes it sent. -/
  | configurationLoadSettles (ackWrite ackAddress ackRead : Bool) (block : List Byte)
  /-- R161 -/
  | startingEnd
  /-- R47 -/
  | secondTick
  /-- R49 -/
  | loadingHoldReached
  /-- R51 -/
  | breakthroughHoldReached
  /-- R7 -/
  | waitMinute
  /-- R111 -/
  | readingPeriod
  /-- R34: the channel and its count, 0-4095. -/
  | conversion (channel : ChannelId) (count : BitVec 12)
  /-- R16 -/
  | clearHoldReached
  /-- R13 -/
  | drainDownEnd
  /-- R14 -/
  | airScourEnd
  /-- R15 -/
  | backwashEnd
  /-- R17 -/
  | settleEnd
  /-- R17 -/
  | rinseEnd
  /-- R54: the valve, its switch and the level (true is asserted) that has held for 5 ticks. -/
  | limitSwitchChange (valve : ValveId) (switch : Position) (level : Bool)
  /-- R58 -/
  | reversalPauseEnd (valve : ValveId)
  /-- R61 -/
  | travelTimeout (valve : ValveId)
  /-- R156 -/
  | manualWashEdge
  /-- R148: the level INHIBIT_KEY changes to. -/
  | inhibitKeyChange (level : Bool)
  /-- R157 -/
  | tankLowAssert
  /-- R124 -/
  | doseFbEdge
  /-- R155: the input and the level it changes to. -/
  | debouncedInputChange (input : DiscreteInput) (level : Bool)
  /-- R74: the sender's group and number, and the data bytes. -/
  | claimIntentArrival (group : BitVec 3) (station : BitVec 5) (data : List Byte)
  /-- R75 -/
  | claimHoldArrival (group : BitVec 3) (station : BitVec 5) (data : List Byte)
  /-- R76 -/
  | claimReleaseArrival (group : BitVec 3) (station : BitVec 5) (data : List Byte)
  /-- R72 -/
  | statusArrival (group : BitVec 3) (station : BitVec 5) (data : List Byte)
  /-- R112 -/
  | readingArrival (group : BitVec 3) (station : BitVec 5) (data : List Byte)
  /-- R130: an ANSWER or any other frame. -/
  | answerArrival (frame : RxFrame)
  /-- R132 -/
  | rxSignalError
  /-- R73: the peer whose status part lapses. -/
  | statusLapse (station : BitVec 5)
  /-- R77 -/
  | intentLapse (station : BitVec 5)
  /-- R78 -/
  | holdLapse (station : BitVec 5)
  /-- R114 -/
  | readingStale
  /-- R95 -/
  | contestWindowExpiry
  /-- R98 -/
  | backoffEnd
  /-- R99 -/
  | holdRefresh
  /-- R134 -/
  | txAttemptStart
  /-- R135 -/
  | lossOfTheMedium
  /-- R135 -/
  | txFailure
  /-- R136 -/
  | txCompletion
  /-- R139 -/
  | offPeriodEnd
  /-- R140 -/
  | connectedLapse
  /-- R119 -/
  | stroke
  /-- R122 -/
  | pulseEnd
  /-- R124 -/
  | feedbackMiss
  /-- R5: a REQUEST of code 1: its panel (G), its target station, bits 7-5 of byte 0 and its argument. -/
  | washNow (panel : BitVec 3) (target : BitVec 5) (high : BitVec 3) (arg : Byte)
  /-- R12 -/
  | abandonWash (panel : BitVec 3) (target : BitVec 5) (high : BitVec 3) (arg : Byte)
  /-- R148 -/
  | inhibitSet (panel : BitVec 3) (target : BitVec 5) (high : BitVec 3) (arg : Byte)
  /-- R148 -/
  | inhibitClear (panel : BitVec 3) (target : BitVec 5) (high : BitVec 3) (arg : Byte)
  /-- R25 -/
  | isolate (panel : BitVec 3) (target : BitVec 5) (high : BitVec 3) (arg : Byte)
  /-- R26 -/
  | returnToService (panel : BitVec 3) (target : BitVec 5) (high : BitVec 3) (arg : Byte)
  /-- R125 -/
  | doseReset (panel : BitVec 3) (target : BitVec 5) (high : BitVec 3) (arg : Byte)
  /-- R149 -/
  | readCounters (panel : BitVec 3) (target : BitVec 5) (high : BitVec 3) (arg : Byte)
  /-- R150 -/
  | clearCounters (panel : BitVec 3) (target : BitVec 5) (high : BitVec 3) (arg : Byte)
  /-- R151 -/
  | readWashRecord (panel : BitVec 3) (target : BitVec 5) (high : BitVec 3) (arg : Byte)
  /-- R152 -/
  | restart (panel : BitVec 3) (target : BitVec 5) (high : BitVec 3) (arg : Byte)
  /-- R154 -/
  | clearResetCause (panel : BitVec 3) (target : BitVec 5) (high : BitVec 3) (arg : Byte)
  /-- R144: a REQUEST whose code is 0 or above 12. -/
  | unknownRequest (panel : BitVec 3) (target : BitVec 5) (high : BitVec 3) (code : BitVec 5) (arg : Byte)
  /-- R159 -/
  | supplyFallsBelowOperatingRange
  deriving DecidableEq, Repr

end Sys2Proof
end

