-- ==== Sys2Proof/WellFormed.lean ====
section
/-! DEFINITION. Which commands say what their row says: the operand checks that the types do not make. A
command that fails one is still taken by `exec`, by what its frame's bytes say. -/

namespace Sys2Proof

/-- A CAN frame of the base format carries 0 to 8 data bytes (R128). -/
def dataLengthOk (data : List Byte) : Bool := data.length ≤ 8

/-- The verb of a CLAIM that names its row (10, section 11.2): byte 0. -/
def claimVerbIs (verb : Byte) (data : List Byte) : Bool := data.head? == some verb

/-- The block as the loader receives it holds 70 bytes (R162), or nothing where an acknowledgement was
missing and the loader stopped at once. -/
def blockOk (acks : Bool) (block : List Byte) : Bool :=
  if acks then block.length == 70 else block.isEmpty

/-- The changes that DEBOUNCED_INPUT_CHANGE tells: those "with no effect at its own event", so no rising
edge of MANUAL_WASH, TANK_LOW or DOSE_FB and no change of INHIBIT_KEY (R155 to R157, R124, R148). -/
def otherInputChange : DiscreteInput → Bool → Bool
  | .flowOk, _ => true
  | .inhibitKey, _ => false
  | .manualWash, level => !level
  | .tankLow, level => !level
  | .doseFb, level => !level

/-- R144: a code that names no request. -/
def unknownCode (code : BitVec 5) : Bool := code.toNat = 0 || 12 < code.toNat

/-- The command's operands are of its row. -/
def Instr.wellFormed : Instr → Bool
  | .configurationLoadSettles a b c block => blockOk (a && b && c) block
  | .debouncedInputChange input level => otherInputChange input level
  | .claimIntentArrival _ _ data => dataLengthOk data && claimVerbIs 1 data
  | .claimHoldArrival _ _ data => dataLengthOk data && claimVerbIs 2 data
  | .claimReleaseArrival _ _ data => dataLengthOk data && claimVerbIs 3 data
  | .statusArrival _ _ data => dataLengthOk data
  | .readingArrival _ _ data => dataLengthOk data
  | .answerArrival frame => dataLengthOk frame.data
  | .unknownRequest _ _ _ code _ => unknownCode code
  | .powerReset _ | .lineReset _ | .startingEnd | .secondTick | .loadingHoldReached
  | .breakthroughHoldReached | .waitMinute | .readingPeriod | .conversion _ _ | .clearHoldReached
  | .drainDownEnd | .airScourEnd | .backwashEnd | .settleEnd | .rinseEnd | .limitSwitchChange _ _ _
  | .reversalPauseEnd _ | .travelTimeout _ | .manualWashEdge | .inhibitKeyChange _ | .tankLowAssert
  | .doseFbEdge | .rxSignalError | .statusLapse _ | .intentLapse _ | .holdLapse _ | .readingStale
  | .contestWindowExpiry | .backoffEnd | .holdRefresh | .txAttemptStart | .lossOfTheMedium | .txFailure
  | .txCompletion | .offPeriodEnd | .connectedLapse | .stroke | .pulseEnd | .feedbackMiss
  | .washNow _ _ _ _ | .abandonWash _ _ _ _ | .inhibitSet _ _ _ _ | .inhibitClear _ _ _ _
  | .isolate _ _ _ _ | .returnToService _ _ _ _ | .doseReset _ _ _ _ | .readCounters _ _ _ _
  | .clearCounters _ _ _ _ | .readWashRecord _ _ _ _ | .restart _ _ _ _ | .clearResetCause _ _ _ _
  | .supplyFallsBelowOperatingRange => true

end Sys2Proof
end

