-- ==== Sys2Proof/Machine/Fixed.lean ====
section
/-! DEFINITION. The built-in default configuration: the Default column of R164. -/

namespace Sys2Proof.Machine

/-- The Default column of R164, in force in RESTRICTED operation (R167). -/
def builtInDefaults : WorkingConfig where
  qref := 900
  qmin := 30
  dpSpan := 1000
  flowSpan := 1500
  turbiditySpan := 1000
  chlorineSpan := 500
  d0Default := 250
  dlim := 800
  loadingTrigger := 900
  loadingHold := 60
  breakthroughLimit := 50
  breakthroughHold := 120
  maxRun := 168
  washFlow := 120
  drainCapacity := 250
  groupMinimum := 1
  contestWindow := 50
  claimLapse := 120
  travelTimeout := 60
  drainDownTime := 120
  airScourTime := 0
  backwashMin := 180
  backwashMax := 480
  wasteClearLevel := 300
  settleTime := 30
  rinseTime := 90
  sampleHolder := 0
  setpoint := 150
  baseDose := 80
  trimGain := 16
  maxDose := 500
  highCut := 300
  phLow := 680
  phHigh := 800
  strength := 120
  strokeVolume := 1500
  minStrokeInterval := 50
  strokeWidth := 10

end Sys2Proof.Machine
end

