-- ==== Sys2Proof/Machine/State.lean ====
section
/-! DEFINITION. The state of the station, block by block (00, section 1.2), as plain data; the reasons a
step could stop; and the state right after reset. -/

namespace Sys2Proof.Machine

/-- The fourteen cycle states (00, section 1.7). -/
inductive CycleState where
  | starting | recovering | inService | waiting | contest | drainDown | airScour | backwash | settle
  | rinse | returning | isolating | isolated | lockedOut
  deriving DecidableEq, Repr

/-- Due reasons (00, section 1.7). -/
inductive DueReason where
  | none | runtime | loading | turbidity | operator
  deriving DecidableEq, Repr

/-- Wash outcomes 1-8 (00, section 1.7). -/
inductive WashOutcome where
  | complete | completeUnclear | cutShortTank | cutShortLink | cutShortValve | yielded | abandoned | locked
  deriving DecidableEq, Repr

/-- A wash record (R29). -/
structure WashRecord where
  due             : DueReason
  outcome         : WashOutcome
  backwashSeconds : Nat
  volume          : Nat
  deriving DecidableEq, Repr

/-- An input that is debounced (R54, R155): the raw level on the pin, the debounced level and the ticks for
which they have differed. -/
structure DebouncedLine where
  raw   : Bool
  level : Bool
  run   : Nat
  deriving DecidableEq, Repr

/-- The five discrete inputs (R155). -/
structure Inputs where
  manualWash : DebouncedLine
  inhibitKey : DebouncedLine
  tankLow    : DebouncedLine
  flowOk     : DebouncedLine
  doseFb     : DebouncedLine
  deriving DecidableEq, Repr

/-- Pins that are levels only: the eight straps (R160) and the counts at the six analog pins (R34). -/
structure Pins where
  straps          : BitVec 8
  dp              : BitVec 12
  flow            : BitVec 12
  outletTurbidity : BitVec 12
  wasteTurbidity  : BitVec 12
  chlorine        : BitVec 12
  ph              : BitVec 12
  deriving DecidableEq, Repr

/-- A channel's condition (R35). -/
inductive Condition where
  | unseen | normal | doubtful | faulted | clearing
  deriving DecidableEq, Repr

/-- A channel record (R35), with the tick of ten at which the channel converts (R33). `due` stands at that
tick until the conversion of that tick is taken (log 6). -/
structure ChannelRecord where
  value     : Nat
  condition : Condition
  run       : Nat
  phase     : Nat
  due       : Bool
  deriving DecidableEq, Repr

/-- The six channel records. -/
structure Channels where
  dp              : ChannelRecord
  flow            : ChannelRecord
  outletTurbidity : ChannelRecord
  wasteTurbidity  : ChannelRecord
  chlorine        : ChannelRecord
  ph              : ChannelRecord
  deriving DecidableEq, Repr

/-- The measurement scanner (R33 to R51). The ring is oldest first (R42). -/
structure Scanner where
  channels         : Channels
  scanCount        : Nat
  qminAbs          : Nat
  ring             : List Nat
  d0               : Nat
  captureArmed     : Bool
  captureDelay     : Nat
  loadingTimer     : Nat
  breakthroughTimer : Nat
  deriving DecidableEq, Repr

/-- Which of the six channels something holds of. -/
structure ValveFlags where
  inlet   : Bool
  outlet  : Bool
  washIn  : Bool
  washOut : Bool
  rinse   : Bool
  air     : Bool
  deriving DecidableEq, Repr

/-- The cycle controller (R1). `clearRunning` is R16's "counts one at each following tick"; `confirmed`
says which channels have confirmed the latest set command (R2). -/
structure Cycle where
  state           : CycleState
  due             : DueReason
  waitMinutes     : Nat
  waitSeconds     : Nat
  stepTimer       : Nat
  clearHold       : Nat
  clearRunning    : Bool
  outcome         : Option WashOutcome
  backwashSeconds : Nat
  runSeconds      : Nat
  records         : List WashRecord
  confirmed       : ValveFlags
  deriving DecidableEq, Repr

/-- Fault causes of a valve channel (00, section 1.7). -/
inductive FaultCause where
  | travel | switches | lost
  deriving DecidableEq, Repr

/-- Valve channel states; the fault cause is present in FAULT and absent in every other state (R53). -/
inductive ValveState where
  | closed | opening | opened | closing | stopped
  | fault (cause : FaultCause)
  deriving DecidableEq, Repr

/-- A valve channel (R53). -/
structure Valve where
  state        : ValveState
  target       : Option Position
  travel       : Nat
  pause        : Nat
  openSwitch   : DebouncedLine
  closedSwitch : DebouncedLine
  deriving DecidableEq, Repr

/-- The six valve channels. -/
structure Valves where
  inlet   : Valve
  outlet  : Valve
  washIn  : Valve
  washOut : Valve
  rinse   : Valve
  air     : Valve
  deriving DecidableEq, Repr

/-- A peer's claim, with the urgency and flow it carries while INTENT or HOLD (R69). -/
inductive PeerClaim where
  | none
  | intent (urgency flow : Nat)
  | hold (urgency flow : Nat)
  deriving DecidableEq, Repr

/-- The status part of an entry while present (R69). -/
structure PeerStatus where
  code : CycleState
  age  : Nat
  deriving DecidableEq, Repr

/-- An entry of the peer table (R69). -/
structure PeerEntry where
  station  : Nat
  group    : Nat
  status   : Option PeerStatus
  claim    : PeerClaim
  claimAge : Nat
  deriving DecidableEq, Repr

/-- The peer table (R69, R82). Entries are kept by rising station number. -/
structure PeerTable where
  entries      : List PeerEntry
  statusLapses : Nat
  claimLapses  : Nat
  duplicate    : Bool
  deriving DecidableEq, Repr

/-- The contest phase (R85). -/
inductive ContestPhase where
  | pending | windowed
  deriving DecidableEq, Repr

/-- The own claim, with the contest phase while INTENT and the frozen urgency while INTENT or HOLD (R85). -/
inductive OwnClaim where
  | none
  | intent (urgency : Nat) (phase : ContestPhase)
  | hold (urgency : Nat)
  deriving DecidableEq, Repr

/-- The share arbiter (R85). `intentNumber` numbers the INTENT last offered, so that a completion can
name its offer (R93, R136). -/
structure Arbiter where
  claim        : OwnClaim
  windowTimer  : Nat
  backoff      : Nat
  refreshTimer : Nat
  contestsLost : Nat
  overlaps     : Nat
  intentNumber : Nat
  deriving DecidableEq, Repr

/-- The analyser state carried with a reading (00, section 1.7). -/
inductive AnalyserState where
  | good | channelFault
  deriving DecidableEq, Repr

/-- Dosing modes (00, section 1.7). -/
inductive DosingMode where
  | held | base | trimmed | fault
  deriving DecidableEq, Repr

/-- The dosing unit (R109). `countOwed` is the model's own (log 26). -/
structure Dosing where
  source            : Option Nat
  readingF          : Nat
  readingPh         : Nat
  analyser          : AnalyserState
  readingAge        : Nat
  conflict          : Bool
  periodCount       : Nat
  mode              : DosingMode
  dose              : Nat
  interval          : Option Nat
  elapsed           : Nat
  pulse             : Nat
  windows           : List Nat
  missCount         : Nat
  faultLatch        : Bool
  strokeCount       : Nat
  duplicateReadings : Nat
  countOwed         : Bool
  deriving DecidableEq, Repr

/-- The kind of a frame this station sends: a CLAIM with the number of the INTENT it is, if it is one; an
ANSWER with the mark of the answer to RESTART (R127, R136). -/
inductive TxKind where
  | claim (intentNumber : Option Nat)
  | reading
  | status
  | answer (restartMark : Bool)
  deriving DecidableEq, Repr

/-- A frame offered to the link, built at its offer (R168). -/
structure TxFrame where
  kind  : TxKind
  ident : Ident
  data  : List Byte
  deriving DecidableEq, Repr

/-- Link states (R127). -/
inductive LinkMode where
  | active | cautious | off
  deriving DecidableEq, Repr

/-- What the link is doing with the frame in transmission: waiting for the bus to be free, sending it, or
receiving the frame it lost the medium to (R128, R135). -/
inductive Attempt where
  | idle | sending | lost
  deriving DecidableEq, Repr

/-- The kind of the first error (R141). -/
inductive ErrorCode where
  | none | format | signal | transmit
  deriving DecidableEq, Repr

/-- The bus link (R127). -/
structure Link where
  mode         : LinkMode
  tally        : Nat
  claim        : Option TxFrame
  reading      : Option TxFrame
  status       : Option TxFrame
  answers      : List TxFrame
  inTx         : Option TxFrame
  attempt      : Attempt
  successAge   : Nat
  offTimer     : Nat
  formatErrors : Nat
  signalErrors : Nat
  txFailures   : Nat
  linkOffs     : Nat
  firstError   : ErrorCode
  deriving DecidableEq, Repr

/-- Reset causes (00, section 1.7). -/
inductive ResetCause where
  | none | power | line | request
  deriving DecidableEq, Repr

/-- The request handler (R143). -/
structure Requests where
  inhibitFlag    : Bool
  resetCause     : ResetCause
  pendingRestart : Bool
  dropped        : Nat
  deriving DecidableEq, Repr

/-- Load outcomes (R162, R163). -/
inductive LoadOutcome where
  | good | absent | checksum | version
  deriving DecidableEq, Repr

/-- The straps as read (R160) and the configuration loader (R162 to R167). The outcome is absent while the
load is under way. -/
structure Loader where
  station : Nat
  group   : Nat
  outcome : Option LoadOutcome
  clamped : Nat
  config  : WorkingConfig
  deriving DecidableEq, Repr

/-- The whole station, and the queue of the commands waiting to be taken. `phase` is the timebase's count
of ticks in the current second (R159); `serial` is the index of the next free value (log 5). -/
structure State where
  supplyOk : Bool
  phase    : Nat
  pins     : Pins
  inputs   : Inputs
  scan     : Scanner
  cycle    : Cycle
  valves   : Valves
  peers    : PeerTable
  arb      : Arbiter
  dose     : Dosing
  link     : Link
  req      : Requests
  load     : Loader
  serial   : Nat
  pending  : List Instr
  deriving DecidableEq, Repr

/-- The station never stops with a fault: every event has an effect, be it none (INVENTORY, Faults). No
command raises one, so there is no constructor, which is safe: no claim can rest on a fault. -/
inductive Fault where
  deriving DecidableEq, Repr

/-- Why a command could have no meaning. -/
inductive Refusal where
  /-- Raised by an arm of `exec` for a command that has no meaning yet; none has this now. Safe: a claim
  about such a command could not be proved. -/
  | notModelled (mnemonic : String)
  deriving DecidableEq, Repr

/-- An input that reads released, its pin at the given raw level, with no run (R54, R155: every reset). -/
def DebouncedLine.fresh (raw : Bool) : DebouncedLine := { raw := raw, level := false, run := 0 }

/-- A channel record after every reset (R35). -/
def ChannelRecord.fresh : ChannelRecord := { value := 0, condition := .unseen, run := 0, phase := 0, due := false }

/-- A valve channel after every reset, its switch pins at the given raw levels (R53). -/
def Valve.fresh (openRaw closedRaw : Bool) : Valve :=
  { state := .stopped, target := none, travel := 0, pause := 0,
    openSwitch := .fresh openRaw, closedSwitch := .fresh closedRaw }

/-- No channel. -/
def ValveFlags.none : ValveFlags :=
  { inlet := false, outlet := false, washIn := false, washOut := false, rinse := false, air := false }

/-- The machine right after reset: the end of a POWER reset (R159), the load under way (R162). The pins'
levels are the model's choice (log 6, 10), as are the working configuration, D0 and Qmin_abs that nothing
reads before the load settles (log 9). -/
def State.reset : State where
  supplyOk := true
  phase := 0
  pins :=
    { straps := 0, dp := 0, flow := 0, outletTurbidity := 0, wasteTurbidity := 0, chlorine := 0, ph := 0 }
  inputs :=
    { manualWash := .fresh false, inhibitKey := .fresh false, tankLow := .fresh false,
      flowOk := .fresh false, doseFb := .fresh false }
  scan :=
    { channels :=
        { dp := .fresh, flow := .fresh, outletTurbidity := .fresh, wasteTurbidity := .fresh,
          chlorine := .fresh, ph := .fresh }
      scanCount := 0, qminAbs := 270, ring := [], d0 := 250, captureArmed := false, captureDelay := 0,
      loadingTimer := 0, breakthroughTimer := 0 }
  cycle :=
    { state := .starting, due := .none, waitMinutes := 0, waitSeconds := 0, stepTimer := 0, clearHold := 0,
      clearRunning := false, outcome := none, backwashSeconds := 0, runSeconds := 0, records := [],
      confirmed := .none }
  valves :=
    { inlet := .fresh false false, outlet := .fresh false false, washIn := .fresh false false,
      washOut := .fresh false false, rinse := .fresh false false, air := .fresh false false }
  peers := { entries := [], statusLapses := 0, claimLapses := 0, duplicate := false }
  arb :=
    { claim := .none, windowTimer := 0, backoff := 0, refreshTimer := 0, contestsLost := 0, overlaps := 0,
      intentNumber := 0 }
  dose :=
    { source := none, readingF := 0, readingPh := 0, analyser := .channelFault, readingAge := 2000,
      conflict := false, periodCount := 0, mode := .held, dose := 0, interval := none, elapsed := 0,
      pulse := 0, windows := [], missCount := 0, faultLatch := false, strokeCount := 0,
      duplicateReadings := 0, countOwed := false }
  link :=
    { mode := .active, tally := 0, claim := none, reading := none, status := none, answers := [],
      inTx := none, attempt := .idle, successAge := 400, offTimer := 0, formatErrors := 0,
      signalErrors := 0, txFailures := 0, linkOffs := 0, firstError := .none }
  req := { inhibitFlag := false, resetCause := .power, pendingRestart := false, dropped := 0 }
  load := { station := 0, group := 0, outcome := none, clamped := 0, config := builtInDefaults }
  serial := 0
  pending := []

end Sys2Proof.Machine
end

