-- ==== Sys2Proof/Machine/Ops.lean ====
section
/-! DEFINITION. The named operations over the state's parts: one setter for each block, and the access to
the channels, valves, switches and inputs by name. Every update of the state goes through these. -/

namespace Sys2Proof.Machine

/-! ### One setter a block -/

def State.setPins (s : State) (x : Pins) : State := { s with pins := x }

def State.setInputs (s : State) (x : Inputs) : State := { s with inputs := x }

def State.setScan (s : State) (x : Scanner) : State := { s with scan := x }

def State.setCycle (s : State) (x : Cycle) : State := { s with cycle := x }

def State.setValves (s : State) (x : Valves) : State := { s with valves := x }

def State.setPeers (s : State) (x : PeerTable) : State := { s with peers := x }

def State.setArb (s : State) (x : Arbiter) : State := { s with arb := x }

def State.setDose (s : State) (x : Dosing) : State := { s with dose := x }

def State.setLink (s : State) (x : Link) : State := { s with link := x }

def State.setReq (s : State) (x : Requests) : State := { s with req := x }

def State.setLoad (s : State) (x : Loader) : State := { s with load := x }

/-- The timebase's count of ticks in the second. -/
def State.setPhase (s : State) (n : Nat) : State := { s with phase := n }

/-- The supply is in its operating range, or not (R159). -/
def State.setSupplyOk (s : State) (b : Bool) : State := { s with supplyOk := b }

/-- The index of the next free value (log 5). -/
def State.setSerial (s : State) (n : Nat) : State := { s with serial := n }

/-- The queue of waiting commands. -/
def State.setPending (s : State) (q : List Instr) : State := { s with pending := q }

/-! ### Inputs -/

def Inputs.get (x : Inputs) : DiscreteInput → DebouncedLine
  | .manualWash => x.manualWash
  | .inhibitKey => x.inhibitKey
  | .tankLow => x.tankLow
  | .flowOk => x.flowOk
  | .doseFb => x.doseFb

def Inputs.set (x : Inputs) (i : DiscreteInput) (l : DebouncedLine) : Inputs :=
  match i with
  | .manualWash => { x with manualWash := l }
  | .inhibitKey => { x with inhibitKey := l }
  | .tankLow => { x with tankLow := l }
  | .flowOk => { x with flowOk := l }
  | .doseFb => { x with doseFb := l }

/-- The line has held a new level for 5 ticks: the pin and the debounced level are that level and the run
count is 0 (R54, R155). -/
def DebouncedLine.changeTo (level : Bool) : DebouncedLine := { raw := level, level := level, run := 0 }

/-- One tick's sample of the line (R54, R155), for a tick at which the debounced level does not change: the
run count counts a raw level that differs and is set to 0 by one that does not. At the tick at which it
would reach 5 the change itself is the event, so the count stays at 4 until the event is taken. -/
def DebouncedLine.sample (l : DebouncedLine) : DebouncedLine :=
  if l.raw = l.level then { l with run := 0 } else { l with run := incTo 4 l.run }

/-- Whether this tick's sample makes the run count reach 5 (R54, R155). -/
def DebouncedLine.changesNow (l : DebouncedLine) : Bool := l.raw != l.level && 4 ≤ l.run

/-! ### Analog channels -/

def Channels.get (x : Channels) : ChannelId → ChannelRecord
  | .dp => x.dp
  | .flow => x.flow
  | .outletTurbidity => x.outletTurbidity
  | .wasteTurbidity => x.wasteTurbidity
  | .chlorine => x.chlorine
  | .ph => x.ph

def Channels.set (x : Channels) (c : ChannelId) (r : ChannelRecord) : Channels :=
  match c with
  | .dp => { x with dp := r }
  | .flow => { x with flow := r }
  | .outletTurbidity => { x with outletTurbidity := r }
  | .wasteTurbidity => { x with wasteTurbidity := r }
  | .chlorine => { x with chlorine := r }
  | .ph => { x with ph := r }

/-- The count that stands at an analog pin. -/
def Pins.analog (p : Pins) : ChannelId → BitVec 12
  | .dp => p.dp
  | .flow => p.flow
  | .outletTurbidity => p.outletTurbidity
  | .wasteTurbidity => p.wasteTurbidity
  | .chlorine => p.chlorine
  | .ph => p.ph

def Pins.setAnalog (p : Pins) (c : ChannelId) (n : BitVec 12) : Pins :=
  match c with
  | .dp => { p with dp := n }
  | .flow => { p with flow := n }
  | .outletTurbidity => { p with outletTurbidity := n }
  | .wasteTurbidity => { p with wasteTurbidity := n }
  | .chlorine => { p with chlorine := n }
  | .ph => { p with ph := n }

/-! ### Valve channels -/

def Valves.get (x : Valves) : ValveId → Valve
  | .inlet => x.inlet
  | .outlet => x.outlet
  | .washIn => x.washIn
  | .washOut => x.washOut
  | .rinse => x.rinse
  | .air => x.air

def Valves.set (x : Valves) (v : ValveId) (c : Valve) : Valves :=
  match v with
  | .inlet => { x with inlet := c }
  | .outlet => { x with outlet := c }
  | .washIn => { x with washIn := c }
  | .washOut => { x with washOut := c }
  | .rinse => { x with rinse := c }
  | .air => { x with air := c }

/-- The same operation on each of the six channels. -/
def Valves.map (f : ValveId → Valve → Valve) (x : Valves) : Valves :=
  { inlet := f .inlet x.inlet, outlet := f .outlet x.outlet, washIn := f .washIn x.washIn,
    washOut := f .washOut x.washOut, rinse := f .rinse x.rinse, air := f .air x.air }

def ValveFlags.get (x : ValveFlags) : ValveId → Bool
  | .inlet => x.inlet
  | .outlet => x.outlet
  | .washIn => x.washIn
  | .washOut => x.washOut
  | .rinse => x.rinse
  | .air => x.air

/-- Marks one channel. -/
def ValveFlags.mark (x : ValveFlags) (v : ValveId) : ValveFlags :=
  match v with
  | .inlet => { x with inlet := true }
  | .outlet => { x with outlet := true }
  | .washIn => { x with washIn := true }
  | .washOut => { x with washOut := true }
  | .rinse => { x with rinse := true }
  | .air => { x with air := true }

def ValveFlags.ofFn (f : ValveId → Bool) : ValveFlags :=
  { inlet := f .inlet, outlet := f .outlet, washIn := f .washIn, washOut := f .washOut, rinse := f .rinse,
    air := f .air }

/-- All six channels are marked: the set is settled (R2). -/
def ValveFlags.all (x : ValveFlags) : Bool :=
  x.inlet && x.outlet && x.washIn && x.washOut && x.rinse && x.air

/-- At least one channel is marked. -/
def ValveFlags.any (x : ValveFlags) : Bool :=
  x.inlet || x.outlet || x.washIn || x.washOut || x.rinse || x.air

def Valve.switch (c : Valve) : Position → DebouncedLine
  | .opened => c.openSwitch
  | .closed => c.closedSwitch

def Valve.setSwitch (c : Valve) (p : Position) (l : DebouncedLine) : Valve :=
  match p with
  | .opened => { c with openSwitch := l }
  | .closed => { c with closedSwitch := l }

end Sys2Proof.Machine
end

