-- ==== Sys2Proof/Machine/Flags.lean ====
section
/-! DEFINITION. The conditions that the blocks read of one another, and the outputs, each computed from the
state that owns it: groups of cycle states, faulted channels, Ls, due conditions, effective inhibit, the
connected test, RESTRICTED, the drives and the lamp. -/

namespace Sys2Proof.Machine

/-! ### Cycle states -/

/-- The filtering states are IN_SERVICE, WAITING and CONTEST (00, section 1.6). -/
def CycleState.filtering : CycleState → Bool
  | .inService | .waiting | .contest => true
  | _ => false

/-- The wash steps (00, section 1.6). -/
def CycleState.washStep : CycleState → Bool
  | .drainDown | .airScour | .backwash | .settle | .rinse => true
  | _ => false

/-- The code of a cycle state (00, section 1.7). -/
def CycleState.code : CycleState → Nat
  | .starting => 0 | .recovering => 1 | .inService => 2 | .waiting => 3 | .contest => 4 | .drainDown => 5
  | .airScour => 6 | .backwash => 7 | .settle => 8 | .rinse => 9 | .returning => 10 | .isolating => 11
  | .isolated => 12 | .lockedOut => 13

/-- The cycle state that a STATUS names by a valid code, 1-13 (R131). -/
def CycleState.ofCode : Nat → Option CycleState
  | 1 => some .recovering | 2 => some .inService | 3 => some .waiting | 4 => some .contest
  | 5 => some .drainDown | 6 => some .airScour | 7 => some .backwash | 8 => some .settle
  | 9 => some .rinse | 10 => some .returning | 11 => some .isolating | 12 => some .isolated
  | 13 => some .lockedOut | _ => none

/-- Due reason codes (00, section 1.7). -/
def DueReason.code : DueReason → Nat
  | .none => 0 | .runtime => 1 | .loading => 2 | .turbidity => 3 | .operator => 4

/-- The base of the due reason's urgency band (R87); NONE has no band and is given 0 (log 16). -/
def DueReason.base : DueReason → Nat
  | .none => 0 | .runtime => 0 | .loading => 64 | .turbidity => 128 | .operator => 192

/-- Outcome codes (00, section 1.7). -/
def WashOutcome.code : WashOutcome → Nat
  | .complete => 1 | .completeUnclear => 2 | .cutShortTank => 3 | .cutShortLink => 4
  | .cutShortValve => 5 | .yielded => 6 | .abandoned => 7 | .locked => 8

/-- Dosing mode codes (00, section 1.7). -/
def DosingMode.code : DosingMode → Nat
  | .held => 0 | .base => 1 | .trimmed => 2 | .fault => 3

/-- Reset cause codes (00, section 1.7). -/
def ResetCause.code : ResetCause → Nat
  | .none => 0 | .power => 1 | .line => 2 | .request => 3

/-- First error codes (R141). -/
def ErrorCode.code : ErrorCode → Nat
  | .none => 0 | .format => 1 | .signal => 2 | .transmit => 3

/-- Load outcome codes (R163). -/
def LoadOutcome.code : LoadOutcome → Nat
  | .good => 0 | .absent => 1 | .checksum => 2 | .version => 3

/-! ### Scanner -/

/-- A channel counts as faulted while UNSEEN, FAULTED or CLEARING (R35). -/
def ChannelRecord.isFaulted (r : ChannelRecord) : Bool :=
  match r.condition with
  | .unseen | .faulted | .clearing => true
  | .normal | .doubtful => false

/-- The smoothed loading index: the mean of the ring, rounded down; not available with no values (R42). -/
def Scanner.ls (x : Scanner) : Option Nat :=
  match x.ring with
  | [] => none
  | ring => some (ring.sum / ring.length)

/-- The span of a channel: pH is fixed at 1400, the two turbidity channels share one field (02, 3.1). -/
def spanOf (cfg : WorkingConfig) : ChannelId → Nat
  | .dp => cfg.dpSpan
  | .flow => cfg.flowSpan
  | .outletTurbidity => cfg.turbiditySpan
  | .wasteTurbidity => cfg.turbiditySpan
  | .chlorine => cfg.chlorineSpan
  | .ph => 1400

/-- The working configuration (R166). -/
abbrev State.cfg (s : State) : WorkingConfig := s.load.config

/-- The scanner presents the loading condition (R49). -/
def State.loadingPresented (s : State) : Bool := s.scan.loadingTimer = s.cfg.loadingHold

/-- The scanner presents the breakthrough condition (R51). -/
def State.breakthroughPresented (s : State) : Bool := s.scan.breakthroughTimer = s.cfg.breakthroughHold

/-- The run hours (R6). -/
def Cycle.runHours (c : Cycle) : Nat := c.runSeconds / 3600

/-- RUNTIME holds when max run is not 0 and the run hours are at or above it (R3). -/
def State.runtimeDue (s : State) : Bool := s.cfg.maxRun != 0 && s.cfg.maxRun ≤ s.cycle.runHours

/-- The due condition of highest code that holds, or NONE (R3). -/
def State.dueCondition (s : State) : DueReason :=
  if s.breakthroughPresented then .turbidity
  else if s.loadingPresented then .loading
  else if s.runtimeDue then .runtime
  else .none

/-! ### Conditions -/

/-- RESTRICTED operation: the load settled with an outcome other than good (R167). -/
def State.restricted (s : State) : Bool :=
  match s.load.outcome with
  | none | some .good => false
  | some .absent | some .checksum | some .version => true

/-- Scanning has begun: the load has settled (R33). -/
def State.scanning (s : State) : Bool := s.load.outcome.isSome

/-- The station is a sample holder (06, section 7.2). -/
def State.sampleHolder (s : State) : Bool := s.cfg.sampleHolder = 1

/-- Effective inhibit (R148). -/
def State.inhibited (s : State) : Bool := s.req.inhibitFlag || s.inputs.inhibitKey.level

/-- The debounced level of TANK_LOW (R157). -/
def State.tankLow (s : State) : Bool := s.inputs.tankLow.level

/-- The connected test (R140). -/
def Link.connected (l : Link) : Bool := l.successAge < 400

/-- The reading record is fresh (R109). -/
def Dosing.fresh (d : Dosing) : Bool := d.source.isSome && d.readingAge < 2000

/-! ### Valve channels -/

def ValveState.isFault : ValveState → Bool
  | .fault _ => true
  | _ => false

/-- A channel is travelling in OPENING and CLOSING (03, section 4.3). -/
def ValveState.travelling : ValveState → Bool
  | .opening | .closing => true
  | _ => false

/-- The waste valves (00, section 1.6). -/
def isWaste : ValveId → Bool
  | .washOut | .rinse => true
  | _ => false

/-- Both waste valves are CLOSED (R104). -/
def Valves.wasteClosed (x : Valves) : Bool := x.washOut.state = .closed && x.rinse.state = .closed

/-- The open drive is on while OPENING with no reversal pause (R56), and off while a reset is held. -/
def Valve.openDrive (c : Valve) : Bool := c.state = .opening && c.pause = 0

/-- The close drive is on while CLOSING with no reversal pause (R56). -/
def Valve.closeDrive (c : Valve) : Bool := c.state = .closing && c.pause = 0

/-- A drive of the channel is on (R56). -/
def Valve.driven (c : Valve) : Bool := c.openDrive || c.closeDrive

/-- The channels that are in FAULT (R67, R68). -/
def Valves.faultFlags (x : Valves) : ValveFlags := .ofFn fun v => (x.get v).state.isFault

/-! ### Outputs -/

/-- The DOSE_STROKE output is on while a pulse remains (R122). -/
def State.doseStroke (s : State) : Bool := 0 < s.dose.pulse

/-- The FAULT_LAMP output (R68); off while a reset is held (R159). -/
def State.faultLamp (s : State) : Bool :=
  s.supplyOk &&
    (s.valves.faultFlags.any || s.cycle.state = .lockedOut || s.restricted || s.dose.mode = .fault)

/-- The link acknowledges good frames and signals errors on the bus, but for OFF (R128) and while a reset
is held (R159). -/
def State.acknowledges (s : State) : Bool := s.supplyOk && s.link.mode != .off

/-! ### Peers -/

/-- The peer counts as filtering: its status part is present with a filtering state and its claim is not
HOLD (R80). -/
def PeerEntry.countsAsFiltering (e : PeerEntry) : Bool :=
  match e.status, e.claim with
  | some _, .hold _ _ => false
  | some st, _ => st.code.filtering
  | none, _ => false

end Sys2Proof.Machine
end

