-- ==== Sys2Proof/Machine/Operands.lean ====
section
/-! DEFINITION. The operand forms: the layouts of 10 in which frames are built (R168) and read (R169), the
identifiers (R129), and the fields of the configuration block (10, section 11.5). -/

namespace Sys2Proof.Machine

/-! ### Bytes -/

def byte (n : Nat) : Byte := BitVec.ofNat 8 n

/-- A two-byte field, low byte first (10). -/
def word16 (n : Nat) : List Byte := [byte (n % 256), byte (n / 256)]

/-- The byte at a place of a frame's data; a place beyond the data reads 0, which no frame that passes the
length check has. -/
def byteAt (data : List Byte) (i : Nat) : Nat := (data.getD i 0).toNat

/-- A two-byte field of a frame's data, low byte first (10). -/
def wordAt (data : List Byte) (i : Nat) : Nat := byteAt data i + 256 * byteAt data (i + 1)

/-- One bit as a number. -/
def bit (b : Bool) : Nat := if b then 1 else 0

/-! ### Identifiers (R129) -/

/-- kind × 256 + G × 32 + station. -/
def identOf (kind g station : Nat) : Ident := BitVec.ofNat 11 (kind * 256 + g * 32 + station)

def kindOf (i : Ident) : Nat := i.toNat / 256

def groupOf (i : Ident) : Nat := i.toNat / 32 % 8

def stationOf (i : Ident) : Nat := i.toNat % 32

/-- A frame of the base format that is no data request. -/
def plainFrame (kind g station : Nat) (data : List Byte) : RxFrame :=
  { extended := false, dataRequest := false, ident := identOf kind g station, data := data }

/-- A REQUEST frame: the request code in bits 4-0 of byte 0 with bits 7-5 as sent, and the argument (10,
section 11.3). -/
def requestFrame (panel target high code : Nat) (arg : Byte) : RxFrame :=
  plainFrame 3 panel target [byte (high * 32 + code), arg]

/-! ### Frames between stations (10, section 11.2) -/

/-- Release reasons (00, section 1.7). -/
inductive ReleaseReason where
  | finished | withdrawn | startClean
  deriving DecidableEq, Repr

def ReleaseReason.code : ReleaseReason → Nat
  | .finished => 0 | .withdrawn => 1 | .startClean => 2

def claimIntentData (urgency flow : Nat) : List Byte := [1, byte urgency, byte flow, 0]

def claimHoldData (urgency flow : Nat) : List Byte := [2, byte urgency, byte flow, 0]

def claimReleaseData (r : ReleaseReason) : List Byte := [3, 0, 0, byte r.code]

def AnalyserState.code : AnalyserState → Nat
  | .good => 0 | .channelFault => 1

def readingData (d : Dosing) : List Byte :=
  word16 d.readingF ++ word16 d.readingPh ++ [byte d.analyser.code]

/-- The valve fault flags of STATUS byte 6, bits 0 to 5 in the order INLET to AIR. -/
def faultBits (f : ValveFlags) : Nat :=
  bit f.inlet + 2 * bit f.outlet + 4 * bit f.washIn + 8 * bit f.washOut + 16 * bit f.rinse + 32 * bit f.air

/-- Ls as STATUS carries it: 0xFFFF while not available (R43). -/
def lsField (s : State) : Nat := s.scan.ls.getD 65535

/-- The eight bytes of a STATUS, each field from its owner as it stands (R168). -/
def statusData (s : State) : List Byte :=
  [ byte s.cycle.state.code,
    byte (s.cycle.due.code + 8 * s.dose.mode.code + 32 * s.req.resetCause.code
      + 128 * bit (s.link.mode = .cautious)),
    byte (s.cycle.waitMinutes + 64 * bit s.restricted + 128 * bit s.peers.duplicate),
    byte (min 255 s.cycle.runHours) ]
  ++ word16 (lsField s)
  ++ [ byte (faultBits s.valves.faultFlags + 64 * bit s.dose.conflict + 128 * bit s.inhibited),
       byte (bit s.tankLow) ]

/-! ### Answers (10, section 11.3) -/

/-- Answer outcomes (R145). -/
inductive AnswerOutcome where
  | taken | refusedState | refusedArgument | unknownRequest | refusedRestricted
  deriving DecidableEq, Repr

def AnswerOutcome.code : AnswerOutcome → Nat
  | .taken => 0 | .refusedState => 1 | .refusedArgument => 2 | .unknownRequest => 3
  | .refusedRestricted => 4

/-- The seven data bytes of every answer that carries none. -/
def zeroData : List Byte := [0, 0, 0, 0, 0, 0, 0]

def answerData (code : Nat) (o : AnswerOutcome) (data : List Byte) : List Byte :=
  byte (code + 32 * o.code) :: data

/-- Counter bank 0 (R149). -/
def bank0 (s : State) : List Byte :=
  [byte s.link.formatErrors, byte s.link.signalErrors, byte s.link.txFailures, byte s.link.linkOffs,
   byte s.link.tally, byte s.link.firstError.code, 0]

/-- Counter bank 1 (R149). -/
def bank1 (s : State) : List Byte :=
  [byte s.peers.claimLapses, byte s.peers.statusLapses, byte s.arb.contestsLost, byte s.arb.overlaps,
   byte s.req.dropped, byte s.dose.duplicateReadings, 0]

/-- Counter bank 2 (R149): the load outcome in bits 1-0 and the clamped-field count in bits 7-2, D0, d and
the stroke count. -/
def bank2 (s : State) : List Byte :=
  byte ((s.load.outcome.map LoadOutcome.code).getD 0 + 4 * s.load.clamped)
    :: (word16 s.scan.d0 ++ word16 s.dose.dose ++ word16 s.dose.strokeCount)

/-- The bank that READ_COUNTERS' argument names (R149). -/
def bankData (s : State) : Nat → List Byte
  | 0 => bank0 s
  | 1 => bank1 s
  | _ => bank2 s

/-- The record at a place of the ring, or zeros where it holds none (R151). -/
def recordData (s : State) (place : Nat) : List Byte :=
  match s.cycle.records[place]? with
  | none => zeroData
  | some r => [byte r.due.code, byte r.outcome.code] ++ word16 r.backwashSeconds ++ word16 r.volume ++ [0]

/-! ### The configuration block (10, section 11.5) -/

/-- The byte of the block at an offset. A byte the memory does not drive is read as 255 (R162). -/
def blockByte (block : List Byte) (offset : Nat) : Nat := (block.getD offset 255).toNat

def blockWord (block : List Byte) (offset : Nat) : Nat :=
  blockByte block offset + 256 * blockByte block (offset + 1)

/-- The stored fields, each from its offset and width (10, section 11.5). -/
def storedConfig (b : List Byte) : WorkingConfig where
  qref := blockWord b 0x01
  qmin := blockByte b 0x03
  dpSpan := blockWord b 0x04
  flowSpan := blockWord b 0x06
  turbiditySpan := blockWord b 0x08
  chlorineSpan := blockWord b 0x0A
  d0Default := blockWord b 0x0C
  dlim := blockWord b 0x0E
  loadingTrigger := blockWord b 0x10
  loadingHold := blockWord b 0x12
  breakthroughLimit := blockWord b 0x14
  breakthroughHold := blockWord b 0x16
  maxRun := blockWord b 0x18
  washFlow := blockByte b 0x1A
  drainCapacity := blockWord b 0x1B
  groupMinimum := blockByte b 0x1D
  contestWindow := blockByte b 0x1E
  claimLapse := blockWord b 0x1F
  travelTimeout := blockByte b 0x21
  drainDownTime := blockWord b 0x22
  airScourTime := blockWord b 0x24
  backwashMin := blockWord b 0x26
  backwashMax := blockWord b 0x28
  wasteClearLevel := blockWord b 0x2A
  settleTime := blockWord b 0x2C
  rinseTime := blockWord b 0x2E
  sampleHolder := blockByte b 0x30
  setpoint := blockWord b 0x31
  baseDose := blockWord b 0x33
  trimGain := blockByte b 0x35
  maxDose := blockWord b 0x36
  highCut := blockWord b 0x38
  phLow := blockWord b 0x3A
  phHigh := blockWord b 0x3C
  strength := blockByte b 0x3E
  strokeVolume := blockWord b 0x3F
  minStrokeInterval := blockWord b 0x41
  strokeWidth := blockByte b 0x43

/-- The layout version field (R163). -/
def storedVersion (b : List Byte) : Nat := blockByte b 0x00

/-- The stored checksum: the 69th byte plus 256 times the 70th (R163). -/
def storedChecksum (b : List Byte) : Nat := blockWord b 0x44

/-- The sum of the 68 field bytes (R163). -/
def fieldSum (b : List Byte) : Nat := ((List.range 68).map (blockByte b)).sum

end Sys2Proof.Machine
end

