-- ==== Sys2Proof/Machine/Link.lean ====
section
/-! DEFINITION. The bus link's own operations (07): taking an offer, taking the waiting frame of lowest
identifier into transmission, failures, completions, the tally, and the error counters. -/

namespace Sys2Proof.Machine

/-- The frames that are waiting are none. -/
def Link.nothingWaiting (l : Link) : Bool :=
  l.claim.isNone && l.reading.isNone && l.status.isNone && l.answers.isEmpty

/-- An offer is taken (R133): lost while OFF; placed as its kind's waiting frame, replacing one there; an
ANSWER as the newest, where fewer than four wait. -/
def Link.offer (l : Link) (f : TxFrame) : Link :=
  match l.mode with
  | .off => l
  | .active | .cautious =>
    match f.kind with
    | .claim _ => { l with claim := some f }
    | .reading => { l with reading := some f }
    | .status => { l with status := some f }
    | .answer _ => if l.answers.length < 4 then { l with answers := l.answers ++ [f] } else l

/-- The waiting ANSWER of lowest identifier, the one offered first among equals (R134). -/
def lowestAnswer : List TxFrame → Option TxFrame
  | [] => none
  | f :: rest =>
    match lowestAnswer rest with
    | none => some f
    | some g => if g.ident.toNat < f.ident.toNat then some g else some f

/-- The waiting frame of lowest identifier leaves its place. Of the own frames the kinds go in the order
CLAIM, READING, STATUS, ANSWER (R134). -/
def Link.takeWaiting (l : Link) : Link :=
  match l.claim, l.reading, l.status, lowestAnswer l.answers with
  | some f, _, _, _ => { l with claim := none, inTx := some f, attempt := .idle }
  | none, some f, _, _ => { l with reading := none, inTx := some f, attempt := .idle }
  | none, none, some f, _ => { l with status := none, inTx := some f, attempt := .idle }
  | none, none, none, some f => { l with answers := l.answers.erase f, inTx := some f, attempt := .idle }
  | none, none, none, none => l

/-- At each event at which the link is not OFF and has no frame in transmission, it takes the waiting frame
of lowest identifier into transmission (R134). -/
def Link.take (l : Link) : Link :=
  match l.mode, l.inTx with
  | .off, _ => l
  | _, some _ => l
  | _, none => l.takeWaiting

/-- The link state as the tally gives it in ACTIVE or CAUTIOUS (R137). -/
def judgedMode (tally : Nat) : LinkMode := if 128 ≤ tally then .cautious else .active

/-- The first error code is set to the error's kind where it is 0 (R141). -/
def firstOf (was new : ErrorCode) : ErrorCode := if was = .none then new else was

/-- A format error is counted (R131). -/
def Link.countFormatError (l : Link) : Link :=
  { l with formatErrors := satInc l.formatErrors, firstError := firstOf l.firstError .format }

/-- A signal error is counted (R132). -/
def Link.countSignalError (l : Link) : Link :=
  { l with signalErrors := satInc l.signalErrors, firstError := firstOf l.firstError .signal }

/-- Whether a failure takes the link OFF: the raised tally would be above 255 (R137). -/
def Link.failureGoesOff (l : Link) : Bool := 255 < l.tally + 8

/-- A failure of the frame in transmission (R135, R137): counted; the tally raised by 8 and the same frame
kept in transmission; or, past 255, the link OFF with everything dropped (R138). -/
def Link.fail (l : Link) : Link :=
  let counted :=
    { l with txFailures := satInc l.txFailures, firstError := firstOf l.firstError .transmit, attempt := .idle }
  if l.failureGoesOff then
    { counted with
      mode := .off, offTimer := 0, tally := 255, inTx := none, claim := none, reading := none,
      status := none, answers := [], linkOffs := satInc l.linkOffs }
  else { counted with tally := l.tally + 8, mode := judgedMode (l.tally + 8) }

/-- A completion of the frame in transmission (R136, points 1, 2 and 5). -/
def Link.complete (l : Link) : Link :=
  { l with tally := l.tally - 1, mode := judgedMode (l.tally - 1), successAge := 0, inTx := none,
           attempt := .idle }

/-- The end of an OFF period (R139). -/
def Link.endOff (l : Link) : Link := { l with mode := .active, tally := 0, offTimer := 0 }

/-- A frame of another node has arrived whole: where the link had lost the medium to it, it tries its own
frame again when the bus is next free (R135). -/
def Link.afterArrival (l : Link) : Link :=
  match l.attempt with
  | .lost => { l with attempt := .idle }
  | .idle | .sending => l

/-- An offer of a frame to the link by its owner (R133). -/
def offer (f : TxFrame) (s : State) : State := s.setLink (s.link.offer f)

/-- A CLAIM of this station (R129, R168), with the INTENT's number where it is one. -/
def claimFrame (s : State) (intentNumber : Option Nat) (data : List Byte) : TxFrame :=
  { kind := .claim intentNumber, ident := identOf 0 s.load.group s.load.station, data := data }

def offerIntent (urgency number : Nat) (s : State) : State :=
  offer (claimFrame s (some number) (claimIntentData urgency s.cfg.washFlow)) s

def offerHold (urgency : Nat) (s : State) : State :=
  offer (claimFrame s none (claimHoldData urgency s.cfg.washFlow)) s

def offerRelease (r : ReleaseReason) (s : State) : State :=
  offer (claimFrame s none (claimReleaseData r)) s

/-- A READING of the record as it stands (R111). -/
def readingFrame (s : State) : TxFrame :=
  { kind := .reading, ident := identOf 1 s.load.group s.load.station, data := readingData s.dose }

def offerReading (s : State) : State := offer (readingFrame s) s

/-- A STATUS of the state as it stands (R32, R168). -/
def statusFrame (s : State) : TxFrame :=
  { kind := .status, ident := identOf 2 s.load.group s.load.station, data := statusData s }

def offerStatus (s : State) : State := offer (statusFrame s) s

/-- An ANSWER (R145), marked or not as the answer to RESTART (R152). -/
def answerFrame (panel code : Nat) (o : AnswerOutcome) (data : List Byte) (restartMark : Bool) (s : State) :
    TxFrame :=
  { kind := .answer restartMark, ident := identOf 4 panel s.load.station, data := answerData code o data }

def offerAnswer (panel code : Nat) (o : AnswerOutcome) (data : List Byte) (restartMark : Bool) (s : State) :
    State :=
  offer (answerFrame panel code o data restartMark s) s

/-- What ends every event: the STATUS of a change of cycle state, or of a second tick, built once every
block has taken the event and offered outside STARTING (R32, R168); then the take into transmission, once
every offer of the event has been placed (R134). -/
def finish (before : CycleState) (always : Bool) (s : State) : State :=
  let s1 :=
    if s.cycle.state != .starting && (always || s.cycle.state != before) then offerStatus s else s
  s1.setLink s1.link.take

/-- An event: no event of any block is taken while a reset is held (R159). `always` says that a STATUS is
offered whether or not the cycle state changes. -/
def event (always : Bool) (body : State → State) (s : State) : Host.Outcome State Fault Refusal :=
  if s.supplyOk then .next (finish s.cycle.state always (body s)) else .next s

end Sys2Proof.Machine
end

