-- ==== Sys2Proof/Machine/Channel.lean ====
section
/-! DEFINITION. One valve channel (03): what it does at a command, a stop, a switch change, the end of a
reversal pause, a travel timeout and the start survey, and the report it makes. -/

namespace Sys2Proof.Machine

/-- The report a channel makes to the cycle controller (R66). -/
inductive Report where
  | none | confirmation | fault
  deriving DecidableEq, Repr

/-- The settled state at a position. -/
def settledAt : Position → ValveState
  | .opened => .opened
  | .closed => .closed

/-- The state travelling toward a position. -/
def towards : Position → ValveState
  | .opened => .opening
  | .closed => .closing

/-- The switch of P is asserted and the other is released. -/
def Valve.atLimit (c : Valve) (p : Position) : Bool := (c.switch p).level && !(c.switch p.other).level

/-- Both limit switches are asserted. -/
def Valve.bothAsserted (c : Valve) : Bool := c.openSwitch.level && c.closedSwitch.level

/-- The channel settles at P: both drives off, pause and travel timer 0, any fault cause gone (R57, R60). -/
def Valve.settleAt (c : Valve) (p : Position) : Valve := { c with state := settledAt p, travel := 0, pause := 0 }

/-- The channel enters FAULT, or changes its cause: drives off, target NONE, timers 0 (R61 to R63). -/
def Valve.enterFault (c : Valve) (cause : FaultCause) : Valve :=
  { c with state := .fault cause, target := none, travel := 0, pause := 0 }

/-- The drive toward P is started and the travel timer set to 0 (R57). -/
def Valve.startDrive (c : Valve) (p : Position) : Valve :=
  { c with state := towards p, travel := 0, pause := 0 }

/-- A reversal (R58): the drive that was on goes off and a pause of 20 ticks starts; a pause that runs goes
on. The travel timer holds. -/
def Valve.reverse (c : Valve) (p : Position) : Valve :=
  { c with state := towards p, pause := if c.pause = 0 then 20 else c.pause }

/-- A command toward P (R57, R58, R65). -/
def Valve.command (c : Valve) (p : Position) : Valve × Report :=
  let c := { c with target := some p }
  if c.atLimit p then (c.settleAt p, .confirmation)
  else if c.bothAsserted then (c.enterFault .switches, .fault)
  else if c.state = towards p then (c, .none)
  else if c.state = towards p.other then (c.reverse p, .none)
  else (c.startDrive p, .none)

/-- A stop command (R59). -/
def Valve.stop (c : Valve) : Valve :=
  match c.state with
  | .opening | .closing => { c with state := .stopped, target := none, travel := 0, pause := 0 }
  | .opened | .closed => { c with target := none }
  | .fault _ | .stopped => c

/-- What the channel does once a limit switch has taken its new level (R60, R62 to R65). -/
def Valve.switchChanged (c : Valve) (p : Position) (level : Bool) : Valve × Report :=
  if c.bothAsserted then
    if c.state.isFault then (c.enterFault .switches, .none) else (c.enterFault .switches, .fault)
  else
    match c.state with
    | .opening | .closing =>
      if level && c.state = towards p then (c.settleAt p, .confirmation) else (c, .none)
    | .opened | .closed =>
      if !level && c.state = settledAt p then (c.enterFault .lost, .fault) else (c, .none)
    | .stopped =>
      if c.atLimit .opened then ({ c with state := .opened }, .none)
      else if c.atLimit .closed then ({ c with state := .closed }, .none)
      else (c, .none)
    | .fault _ => (c, .none)

/-- The position a travelling channel travels toward. -/
def ValveState.destination : ValveState → Option Position
  | .opening => some .opened
  | .closing => some .closed
  | _ => none

/-- The end of the reversal pause (R58): the channel settles and confirms at once, or starts its drive. -/
def Valve.endPause (c : Valve) : Valve × Report :=
  match c.state.destination with
  | some p => if c.atLimit p then (c.settleAt p, .confirmation) else (c.startDrive p, .none)
  | none => (c, .none)

/-- The reversal pause reaches 0 at this tick (R58). -/
def Valve.pauseEnds (c : Valve) : Bool := c.state.travelling && c.pause = 1

/-- The travel timer has reached the travel timeout × 100 with a drive on (R61). -/
def Valve.timedOut (c : Valve) (timeout : Nat) : Bool := c.driven && timeout * 100 ≤ c.travel

/-- The start survey (R55). -/
def Valve.survey (c : Valve) : Valve :=
  let state :=
    if c.bothAsserted then .fault .switches
    else if c.atLimit .closed then .closed
    else if c.atLimit .opened then .opened
    else .stopped
  { c with state := state, target := none, travel := 0, pause := 0 }

/-- The tick's count of a channel (R56, R58): the travel timer counts while a drive is on, and a pause
counts down. The tick at which the pause would reach 0 is the event's own. -/
def Valve.countTick (c : Valve) : Valve :=
  if c.driven then { c with travel := incTo 12000 c.travel }
  else if c.state.travelling && 1 < c.pause then { c with pause := c.pause - 1 }
  else c

/-- A valve set (00, section 1.7): the position of each channel. -/
abbrev ValveSet := ValveId → Position

/-- The SERVICE set. -/
def serviceSet : ValveSet
  | .inlet | .outlet => .opened
  | .washIn | .washOut | .rinse | .air => .closed

/-- The ISOLATED set, and that of the SETTLE step. -/
def allClosedSet : ValveSet := fun _ => .closed

/-- The set of a wash step (00, section 1.7); of every other state the SERVICE set, which none but
RETURNING and RECOVERING command. -/
def stepSet : CycleState → ValveSet
  | .drainDown => fun v => if v = .washOut then .opened else .closed
  | .airScour => fun v => if v = .washOut || v = .air then .opened else .closed
  | .backwash => fun v => if v = .washIn || v = .washOut then .opened else .closed
  | .settle => allClosedSet
  | .rinse => fun v => if v = .inlet || v = .rinse then .opened else .closed
  | _ => serviceSet

/-- All six channels are commanded to their positions in a set (R2). -/
def Valves.command (x : Valves) (set : ValveSet) : Valves := x.map fun v c => (c.command (set v)).1

/-- The channels that confirm at the command itself (R2, R57). -/
def Valves.confirmations (x : Valves) (set : ValveSet) : ValveFlags :=
  .ofFn fun v => ((x.get v).command (set v)).2 = .confirmation

/-- Whether a channel faults at the command itself (R57, case 2). -/
def Valves.commandFaults (x : Valves) (set : ValveSet) : Bool :=
  (ValveFlags.ofFn fun v => ((x.get v).command (set v)).2 = .fault).any

end Sys2Proof.Machine
end

