-- ==== Sys2Proof/Machine/Scanner.lean ====
section
/-! DEFINITION. The measurement scanner (02): conversion, channel condition, bed loading, the clean-bed
baseline and the two trigger hold timers. -/

namespace Sys2Proof.Machine

/-- A conversion is good at counts 720-4080 (R34). -/
def goodCount (c : Nat) : Bool := 720 ≤ c && c ≤ 4080

/-- The value of a good conversion: the count clamped to 800-4000, then floor((c - 800) × span / 3200)
(R34). -/
def convert (span c : Nat) : Nat := (min 4000 (max 800 c) - 800) * span / 3200

/-- A bad conversion: the value stays and the condition moves by R36's table. -/
def ChannelRecord.bad (r : ChannelRecord) : ChannelRecord :=
  match r.condition with
  | .unseen => { r with condition := .unseen, run := 0 }
  | .normal => { r with condition := .doubtful, run := 1 }
  | .doubtful => if r.run < 2 then { r with run := r.run + 1 } else { r with condition := .faulted, run := 0 }
  | .faulted => { r with run := 0 }
  | .clearing => { r with condition := .faulted, run := 0 }

/-- A good conversion: the value is replaced and the condition moves by R37's table. -/
def ChannelRecord.good (r : ChannelRecord) (value : Nat) : ChannelRecord :=
  match r.condition with
  | .unseen => { r with value := value, condition := .normal, run := 0 }
  | .normal => { r with value := value, run := 0 }
  | .doubtful => { r with value := value, condition := .normal, run := 0 }
  | .faulted => { r with value := value, condition := .clearing, run := 1 }
  | .clearing =>
    if r.run < 2 then { r with value := value, run := r.run + 1 }
    else { r with value := value, condition := .normal, run := 0 }

/-- A conversion of a count on a channel of the given span (R34, R36, R37). It is the one of its tick (R33). -/
def ChannelRecord.convert (r : ChannelRecord) (span c : Nat) : ChannelRecord :=
  { if goodCount c then r.good (Machine.convert span c) else r.bad with due := false }

/-- The loading is computable (R39). -/
def State.computable (s : State) : Bool :=
  s.cycle.state.filtering && !s.scan.channels.dp.isFaulted && !s.scan.channels.flow.isFaulted
    && s.scan.qminAbs ≤ s.scan.channels.flow.value

/-- The corrected headloss Dc (R40). -/
def correctedHeadloss (dp qref q : Nat) : Nat := min 4000 (dp * qref / q)

/-- The loading value L (R41). -/
def loadingValue (dc d0 dlim : Nat) : Nat :=
  if dc ≤ d0 then 0 else min 1000 ((dc - d0) * 1000 / (dlim - d0))

/-- L joins the ring as the newest; the oldest of 8 leaves it (R42). -/
def pushRing (ring : List Nat) (l : Nat) : List Nat :=
  (if ring.length < 8 then ring else ring.drop 1) ++ [l]

/-- Dc of the published values (R40). -/
def State.dc (s : State) : Nat :=
  correctedHeadloss s.scan.channels.dp.value s.cfg.qref s.scan.channels.flow.value

/-- The capture delay count of a tick: while the mark is armed it counts ticks at which the cycle state is
filtering, stopping at 6000 (R45). -/
def Scanner.countCapture (x : Scanner) (filtering : Bool) : Scanner :=
  if x.captureArmed && filtering then { x with captureDelay := incTo 6000 x.captureDelay } else x

/-- The capture (R46) or the push (R41, R42) of a second tick at which the loading is computable. -/
def Scanner.captureOrPush (x : Scanner) (dc dlim : Nat) : Scanner :=
  if x.captureArmed && x.captureDelay = 6000 then
    { x with d0 := min dc (dlim - 50), ring := [], captureArmed := false, captureDelay := 0 }
  else { x with ring := pushRing x.ring (loadingValue dc x.d0 dlim) }

/-- The loading hold timer at a second tick, after the push or capture (R48). -/
def Scanner.updateLoadingTimer (x : Scanner) (filtering : Bool) (cfg : WorkingConfig) : Scanner :=
  match x.ls with
  | none => { x with loadingTimer := 0 }
  | some ls =>
    if filtering && cfg.loadingTrigger ≤ ls then
      { x with loadingTimer := incTo cfg.loadingHold x.loadingTimer }
    else { x with loadingTimer := 0 }

/-- Outlet turbidity is not faulted and at or above the breakthrough limit (R50). -/
def Scanner.breaksThrough (x : Scanner) (cfg : WorkingConfig) : Bool :=
  !x.channels.outletTurbidity.isFaulted && cfg.breakthroughLimit ≤ x.channels.outletTurbidity.value

/-- The breakthrough hold timer at a second tick (R50). -/
def Scanner.updateBreakthroughTimer (x : Scanner) (filtering : Bool) (cfg : WorkingConfig) : Scanner :=
  if filtering && x.breaksThrough cfg then
    { x with breakthroughTimer := incTo cfg.breakthroughHold x.breakthroughTimer }
  else { x with breakthroughTimer := 0 }

/-- The scanner's work at a second tick, in R47's order: the capture delay count, the loading computation
with push or capture, both hold timers. The conditions are presented by what it leaves (R49, R51). -/
def scannerSecond (s : State) : State :=
  let filtering := s.cycle.state.filtering
  let x1 := s.scan.countCapture filtering
  let x2 := if s.computable then x1.captureOrPush s.dc s.cfg.dlim else x1
  s.setScan ((x2.updateLoadingTimer filtering s.cfg).updateBreakthroughTimer filtering s.cfg)

/-- The clean-bed signal arms the capture mark and sets the count to 0 (R45). -/
def cleanBedSignal (s : State) : State :=
  s.setScan { s.scan with captureArmed := true, captureDelay := 0 }

/-- The clear-hold timer at a conversion of the waste turbidity channel (R16): outside BACKWASH and until
the set has settled it is held at 0. -/
def Cycle.judgeClear (c : Cycle) (r : ChannelRecord) (level : Nat) : Cycle :=
  if c.state = .backwash && c.confirmed.all then
    if r.isFaulted || level < r.value then { c with clearHold := 0, clearRunning := false }
    else { c with clearRunning := true }
  else c

/-- What the conversion of a channel does beside its record: channel 2 can set the breakthrough hold timer
to 0 (R50), channel 3 is judged by the clear-hold timer (R16). -/
def afterConversion (c : ChannelId) (s : State) : State :=
  match c with
  | .outletTurbidity =>
    if s.scan.breaksThrough s.cfg then s else s.setScan { s.scan with breakthroughTimer := 0 }
  | .wasteTurbidity =>
    s.setCycle (s.cycle.judgeClear s.scan.channels.wasteTurbidity s.cfg.wasteClearLevel)
  | .dp | .flow | .chlorine | .ph => s

/-- A conversion is told with the count that stands at the pin. At the channel's own tick it is the conversion of
that tick, taken once (R33); at another moment, and before scanning begins, it tells the count at the pin alone,
which the channel converts at its own tick (log 6). -/
def takeConversion (c : ChannelId) (count : BitVec 12) (s : State) : State :=
  let s1 := s.setPins (s.pins.setAnalog c count)
  let r := s.scan.channels.get c
  if r.due then
    afterConversion c
      (s1.setScan { s.scan with channels := s.scan.channels.set c (r.convert (spanOf s.cfg c) count.toNat) })
  else s1

end Sys2Proof.Machine
end

