-- ==== Sys2Proof/Machine/Dosing.lean ====
section
/-! DEFINITION. The dosing unit (06): the group reading, the mode decision, dose and stroke interval, the
pacer and the pump feedback. -/

namespace Sys2Proof.Machine

/-! ### The group reading -/

/-- A sample holder takes the record from its own channels 4 and 5 (R110). -/
def Dosing.takeOwnReading (d : Dosing) (own : Nat) (chlorine ph : ChannelRecord) : Dosing :=
  { d with
    source := some own, readingF := chlorine.value, readingPh := ph.value,
    analyser := if chlorine.isFaulted || ph.isFaulted then .channelFault else .good,
    readingAge := 0 }

/-- A READING is adopted (R112). -/
def Dosing.adopt (d : Dosing) (p f ph : Nat) (a : AnalyserState) : Dosing :=
  { d with source := some p, readingF := f, readingPh := ph, analyser := a, readingAge := 0, conflict := false }

/-- A READING is ignored and counted (R112, R113). -/
def Dosing.ignoreReading (d : Dosing) : Dosing :=
  { d with duplicateReadings := satInc d.duplicateReadings, conflict := true }

/-- A READING of the own group from station p: ignored by a sample holder (R113); else adopted where the
record is not fresh or p is its source, and ignored otherwise (R112). -/
def Dosing.takeReading (d : Dosing) (holder : Bool) (p f ph : Nat) (a : AnalyserState) : Dosing :=
  if holder then d.ignoreReading
  else if !d.fresh || d.source = some p then d.adopt p f ph a
  else d.ignoreReading

/-! ### The pacer -/

/-- The pacer stops, in the mode given (R121): d is 0, I absent and the elapsed count 0. -/
def Dosing.stopPacing (d : Dosing) (mode : DosingMode) : Dosing :=
  { d with mode := mode, dose := 0, interval := none, elapsed := 0, countOwed := false }

/-- A stroke begins (R122): the pulse, the stroke count modulo 65536 (R123), a feedback window of age 0
(R124), and the elapsed count set to 0. It counts only the ticks after the stroke's own (R119), so that tick owes
no count. -/
def Dosing.beginStroke (d : Dosing) (width : Nat) : Dosing :=
  { d with elapsed := 0, countOwed := false, pulse := width, strokeCount := (d.strokeCount + 1) % 65536,
           windows := d.windows ++ [0] }

/-- The pacer counts: the mode is BASE or TRIMMED and I is present (R119). -/
def Dosing.pacing (d : Dosing) : Bool := (d.mode = .base || d.mode = .trimmed) && d.interval.isSome

/-- The elapsed count has reached I (R119). -/
def Dosing.strokeDue (d : Dosing) : Bool :=
  (d.mode = .base || d.mode = .trimmed) &&
    match d.interval with
    | some i => i ≤ d.elapsed
    | none => false

/-- The pacer's count of a tick (R119). -/
def Dosing.countPacer (d : Dosing) : Dosing :=
  if d.pacing then { d with elapsed := incTo 65535 d.elapsed } else d

/-- The pacer's count of this tick where it comes after the recompute (R120, second order; log 26). None is owed
where the recompute has begun a stroke. -/
def Dosing.countAfterRecompute (d : Dosing) (width : Nat) : Dosing :=
  if d.countOwed then
    let d1 := { d.countPacer with countOwed := false }
    if d1.strokeDue then d1.beginStroke width else d1
  else d

/-- The cycle leaves the filtering states (R116): HELD, unless FAULT, and the pacer stops. -/
def Dosing.holdOnExit (d : Dosing) : Dosing :=
  d.stopPacing (if d.mode = .fault then .fault else .held)

/-! ### Mode, dose and interval -/

/-- The mode that a second tick decides (R115): the first line that holds. -/
def State.decidedMode (s : State) : DosingMode :=
  let q := s.scan.channels.flow
  let usable := s.dose.fresh && s.dose.analyser = .good
  if s.dose.faultLatch then .fault
  else if !s.cycle.state.filtering || s.restricted || !s.inputs.flowOk.level || q.isFaulted
      || q.value < s.scan.qminAbs || (usable && s.cfg.highCut ≤ s.dose.readingF) then .held
  else if usable && s.cfg.phLow ≤ s.dose.readingPh && s.dose.readingPh ≤ s.cfg.phHigh then .trimmed
  else .base

/-- The trim (S - F) × K / 16, truncated toward zero (R117). -/
def trimOf (setpoint f gain : Nat) : Int := (((setpoint : Int) - f) * gain).tdiv 16

/-- The dose d of BASE or TRIMMED, clamped to 0-max dose (R117). -/
def doseOf (cfg : WorkingConfig) (mode : DosingMode) (f : Nat) : Nat :=
  let raw : Int :=
    match mode with
    | .trimmed => (cfg.baseDose : Int) + trimOf cfg.setpoint f cfg.trimGain
    | .base => cfg.baseDose
    | .held | .fault => 0
  min cfg.maxDose raw.toNat

/-- The stroke interval I (R118). -/
def intervalOf (cfg : WorkingConfig) (q d : Nat) : Nat :=
  min 65535 (max cfg.minStrokeInterval (360 * cfg.strength * cfg.strokeVolume / (q * d)))

/-- What the dosing unit does with the mode of a second tick: in HELD and FAULT, and where d is 0, the
pacer stops (R115, R121); else d and I are new (R117, R118), and a stroke begins if the elapsed count is
at or above the new I (R120). -/
def Dosing.recompute (d : Dosing) (mode : DosingMode) (dose interval width : Nat) : Dosing :=
  match mode with
  | .held | .fault => d.stopPacing mode
  | .base | .trimmed =>
    if dose = 0 then d.stopPacing mode
    else
      let d1 := { d with mode := mode, dose := dose, interval := some interval }
      (if interval ≤ d1.elapsed then d1.beginStroke width else d1).countAfterRecompute width

/-- The mode decision of a second tick with all that follows from it (R115 to R121). -/
def decideDosing (s : State) : State :=
  let mode := s.decidedMode
  let dose := doseOf s.cfg mode s.dose.readingF
  s.setDose (s.dose.recompute mode dose (intervalOf s.cfg s.scan.channels.flow.value dose) s.cfg.strokeWidth)

/-- The record of a sample holder, at each second tick before the mode decision (R110). -/
def sampleOwnChannels (s : State) : State :=
  if s.sampleHolder then
    s.setDose (s.dose.takeOwnReading s.load.station s.scan.channels.chlorine s.scan.channels.ph)
  else s

/-- The reading period of a sample holder outside STARTING (R111): at the second tick at which the count would
reach 5 it is set to 0 and a READING is offered. -/
def countReadingPeriod (s : State) : State :=
  if s.sampleHolder && s.cycle.state != .starting then
    if 4 ≤ s.dose.periodCount then offerReading (s.setDose { s.dose with periodCount := 0 })
    else s.setDose { s.dose with periodCount := s.dose.periodCount + 1 }
  else s

/-- The dosing unit's work at a second tick: the record, the READING, the mode (R110, R111, R115). -/
def dosingSecond (s : State) : State := decideDosing (countReadingPeriod (sampleOwnChannels s))

/-! ### Pump feedback -/

/-- A feedback (R124): the oldest open window is removed and the miss count set to 0; without one, nothing. -/
def Dosing.feedback (d : Dosing) : Dosing :=
  match d.windows with
  | [] => d
  | _ :: rest => { d with windows := rest, missCount := 0 }

/-- The oldest window reaches 50 ticks (R124). -/
def Dosing.missDue (d : Dosing) : Bool :=
  match d.windows with
  | [] => false
  | age :: _ => 49 ≤ age

/-- A miss (R124): the window is removed and counted; at the third the fault latches, if it is clear, the
mode becomes FAULT and the pacer stops. -/
def Dosing.miss (d : Dosing) : Dosing :=
  let d1 := { d with windows := d.windows.drop 1, missCount := incTo 3 d.missCount }
  if d1.missCount = 3 && !d1.faultLatch then { d1 with faultLatch := true }.stopPacing .fault else d1

/-- DOSE_RESET (R125). -/
def Dosing.clearFault (d : Dosing) : Dosing :=
  { d with faultLatch := false, missCount := 0, windows := [], mode := .held }

/-- The tick's count of the dosing unit but for the pacer (R114, R122, R124): the reading age in a station
that is no sample holder, the pulse remaining, the window ages. A tick at which one of these reaches its
end is the event's own. -/
def Dosing.countTick (d : Dosing) (holder : Bool) : Dosing :=
  { d with
    readingAge := if holder then d.readingAge else if d.readingAge < 1999 then d.readingAge + 1 else d.readingAge,
    pulse := if 1 < d.pulse then d.pulse - 1 else d.pulse,
    windows := d.windows.map (incTo 49) }

end Sys2Proof.Machine
end

