-- ==== Sys2Proof/Machine/Arbiter.lean ====
section
/-! DEFINITION. The share arbiter (05): urgency, precedence, the admission and overlap tests, the conditions
for a new intent, and the changes of the own claim with their CLAIM offers. -/

namespace Sys2Proof.Machine

/-! ### Urgency and precedence -/

/-- The urgency U formed from the due reason, Ls and the wait minutes (R87). -/
def formedUrgency (s : State) : Nat :=
  let base := s.cycle.due.base
  min (base + 63) (base + s.scan.ls.getD 0 * 63 / 1000 + s.cycle.waitMinutes)

/-- This station's urgency for a comparison: frozen while INTENT or HOLD, else the current one (R88). -/
def ownUrgency (s : State) : Nat :=
  match s.arb.claim with
  | .none => formedUrgency s
  | .intent u _ => u
  | .hold u => u

/-- A peer's claim has precedence over an urgency and a station number (R88). -/
def PeerEntry.precedes (e : PeerEntry) (urgency own : Nat) : Bool :=
  match e.claim with
  | .none => false
  | .intent u _ | .hold u _ => urgency < u || (u = urgency && e.station < own)

/-- Peer e has precedence over this station (R88). -/
def hasPrecedence (s : State) (e : PeerEntry) : Bool := e.precedes (ownUrgency s) s.load.station

/-! ### The tests -/

/-- What a peer adds to A (R89): a HOLD always, an INTENT where it has precedence. -/
def admissionFlow (s : State) (e : PeerEntry) : Nat :=
  match e.claim with
  | .none => 0
  | .hold _ flow => flow
  | .intent _ flow => if hasPrecedence s e then flow else 0

/-- The flow sum A (R89). -/
def flowSum (s : State) : Nat := s.cfg.washFlow + (s.peers.entries.map (admissionFlow s)).sum

/-- A claim is an INTENT. -/
def PeerClaim.isIntent : PeerClaim → Bool
  | .intent _ _ => true
  | .none | .hold _ _ => false

/-- The peer is counted in N (R90). -/
def countedInGroup (s : State) (e : PeerEntry) : Bool :=
  e.group = s.load.group && e.countsAsFiltering && !(e.claim.isIntent && hasPrecedence s e)

/-- The admission test (R89, R90): the flow part, and the group part where the group minimum is not 0. -/
def admission (s : State) : Bool :=
  flowSum s ≤ s.cfg.drainCapacity &&
    (s.cfg.groupMinimum = 0 || s.cfg.groupMinimum ≤ (s.peers.entries.filter (countedInGroup s)).length)

/-- The flow of a HOLD, as the overlap test sums it (R106). -/
def heldFlow (e : PeerEntry) : Nat :=
  match e.claim with
  | .hold _ flow => flow
  | .none | .intent _ _ => 0

/-- The overlap test passes (R106). -/
def overlapPasses (s : State) : Bool :=
  s.cfg.washFlow + (s.peers.entries.map heldFlow).sum ≤ s.cfg.drainCapacity &&
    (s.cfg.groupMinimum = 0 || s.cfg.groupMinimum ≤
      (s.peers.entries.filter fun e => e.group = s.load.group && e.countsAsFiltering).length)

/-- The conditions for a new intent (R91). -/
def intentConditions (s : State) : Bool :=
  s.link.connected && s.link.mode != .off && s.arb.backoff = 0 && !s.inhibited && !s.tankLow
    && !s.restricted && !s.peers.duplicate

/-! ### Changes of the own claim -/

/-- The back-off timer is set to 200 + 10 × the station number (R98). -/
def setBackoff (s : State) : State := s.setArb { s.arb with backoff := 200 + 10 * s.load.station }

/-- The claim becomes NONE with the window timer at 0 (R94, R96, R97). -/
def dropClaim (s : State) : State := s.setArb { s.arb with claim := .none, windowTimer := 0 }

/-- A contest is withdrawn from: RELEASE(WITHDRAWN) and the claim NONE (R94, R97). -/
def withdraw (s : State) : State := dropClaim (offerRelease .withdrawn s)

/-- The claim becomes HOLD at an urgency, with a CLAIM HOLD offered (R95, R101). -/
def takeHold (urgency : Nat) (s : State) : State :=
  offerHold urgency
    (s.setArb { s.arb with claim := .hold urgency, windowTimer := 0, refreshTimer := 0 })

/-- RELEASE(FINISHED), the claim NONE and the hold refresh timer 0 (R103, R104). -/
def releaseFinished (s : State) : State :=
  let s1 := offerRelease .finished s
  s1.setArb { s1.arb with claim := .none, refreshTimer := 0 }

/-- The own claim is HOLD. -/
def OwnClaim.isHold : OwnClaim → Bool
  | .hold _ => true
  | .none | .intent _ _ => false

/-- The own claim is INTENT. -/
def OwnClaim.isIntent : OwnClaim → Bool
  | .intent _ _ => true
  | .none | .hold _ => false

/-- The report of a waste valve leaving CLOSED (R101): outside STARTING, the wash steps and RETURNING, a
claim that is not HOLD becomes a forced hold at urgency 255. -/
def wasteLeftClosed (s : State) : State :=
  if s.cycle.state = .starting || s.cycle.state.washStep || s.cycle.state = .returning then s
  else if s.arb.claim.isHold then s
  else takeHold 255 s

/-- The report of a waste valve becoming CLOSED: in LOCKED_OUT it releases a HOLD once both are CLOSED
(R104). -/
def wasteBecameClosed (s : State) : State :=
  if s.cycle.state = .lockedOut && s.arb.claim.isHold && s.valves.wasteClosed then releaseFinished s else s

/-- A waste valve's report to the arbiter where its state leaves or becomes CLOSED (R67). -/
def wasteReport (v : ValveId) (before after : ValveState) (s : State) : State :=
  if isWaste v then
    if before = .closed && after != .closed then wasteLeftClosed s
    else if before != .closed && after = .closed then wasteBecameClosed s
    else s
  else s

/-- The start-up survey as the arbiter takes it (R102): a forced hold if a waste valve is not CLOSED, else
RELEASE(START_CLEAN). -/
def arbiterSurvey (s : State) : State :=
  if s.valves.wasteClosed then offerRelease .startClean s else takeHold 255 s

/-- At each entry to LOCKED_OUT, a HOLD is released where both waste valves are CLOSED (R104). -/
def releaseAtLockout (s : State) : State :=
  if s.arb.claim.isHold && s.valves.wasteClosed then releaseFinished s else s

end Sys2Proof.Machine
end

