-- ==== Sys2Proof/Machine/Cycle.lean ====
section
/-! DEFINITION. The cycle controller (01) with the reports it takes from the valve channels and the share
arbiter: changes of cycle state, valve sets, the wash steps, cutting short, returning, recovery, isolation,
lockout, due reasons, and the contest as it moves the cycle. -/

namespace Sys2Proof.Machine

/-! ### Changes of cycle state -/

/-- The cycle state changes. The step timer and clear-hold timer are 0 at every entry and exit of a wash
step (R1, R15, R16); a change from a filtering state to another holds dosing (R116); an exit from WAITING
ends the back-off (R98). -/
def enterState (new : CycleState) (s : State) : State :=
  let old := s.cycle.state
  let s1 := s.setCycle
    { s.cycle with state := new, stepTimer := 0, clearHold := 0, clearRunning := false }
  let s2 := if old.filtering && !new.filtering then s1.setDose s1.dose.holdOnExit else s1
  if old = .waiting && new != .waiting then s2.setArb { s2.arb with backoff := 0 } else s2

/-- The due reason is cleared, and the wait count with it (R7, R12, R22, R25). -/
def clearDue (s : State) : State :=
  s.setCycle { s.cycle with due := .none, waitMinutes := 0, waitSeconds := 0 }

/-- A set is commanded: each channel takes its command (R2), those settled at once confirm, and the waste
valves report to the arbiter (R67). All six commands are given before any report is taken (log 11). -/
def commandSet (set : ValveSet) (s : State) : State :=
  let old := s.valves
  let new := old.command set
  let s1 := (s.setValves new).setCycle { s.cycle with confirmed := old.confirmations set }
  wasteReport .rinse old.rinse.state new.rinse.state
    (wasteReport .washOut old.washOut.state new.washOut.state s1)

/-- The current set is settled: all six channels have confirmed (R2). -/
def State.settled (s : State) : Bool := s.cycle.confirmed.all

/-! ### Wash records -/

/-- The volume floor(W × backwash seconds / 360) (R29). -/
def washVolume (w seconds : Nat) : Nat := w * seconds / 360

/-- A wash record of the current wash takes place 0 of the ring; one moved out of place 3 is dropped
(R29, R30). -/
def addRecord (outcome : WashOutcome) (s : State) : State :=
  let r : WashRecord :=
    { due := s.cycle.due, outcome := outcome, backwashSeconds := s.cycle.backwashSeconds,
      volume := washVolume s.cfg.washFlow s.cycle.backwashSeconds }
  s.setCycle { s.cycle with records := (r :: s.cycle.records).take 4 }

/-- The current outcome and the backwash seconds are set to 0 (R13, R22, R27). -/
def clearOutcome (s : State) : State := s.setCycle { s.cycle with outcome := none, backwashSeconds := 0 }

/-! ### Lockout, recovery, isolation, returning -/

/-- The entry into LOCKED_OUT (R27, R28): from RETURNING a record of outcome LOCKED; every channel is given
a stop command; a HOLD is released where both waste valves are CLOSED (R104). -/
def lockOut (s : State) : State :=
  let s1 := if s.cycle.state = .returning then clearOutcome (addRecord .locked s) else s
  let s2 := enterState .lockedOut s1
  releaseAtLockout (s2.setValves (s2.valves.map fun _ c => c.stop))

/-- An outcome after which the wash is retained and attempted again (R22). -/
def WashOutcome.retained : WashOutcome → Bool
  | .yielded | .cutShortTank | .cutShortLink => true
  | _ => false

/-- An outcome that gives the clean-bed signal (R22). -/
def WashOutcome.clean : WashOutcome → Bool
  | .complete | .completeUnclear => true
  | _ => false

/-- The run seconds are set to 0 if the wash's backwash seconds reached the backwash minimum (R6, R22). -/
def clearRunSeconds (s : State) : State :=
  if s.cfg.backwashMin ≤ s.cycle.backwashSeconds then s.setCycle { s.cycle with runSeconds := 0 } else s

/-- The completion of a wash with its outcome (R22, R103), in R22's order: the arbiter's release with its
back-off, the record, the run seconds, the next state, the outcome and backwash seconds set to 0. -/
def completeWash (outcome : WashOutcome) (s : State) : State :=
  let s1 := releaseFinished s
  let s2 := if outcome.retained then setBackoff s1 else s1
  let s3 := clearRunSeconds (addRecord outcome s2)
  let s4 :=
    if outcome.retained then enterState .waiting s3
    else
      let s5 := enterState .inService (clearDue s3)
      if outcome.clean then cleanBedSignal s5 else s5
  clearOutcome s4

/-- The settlement of the SERVICE set in RECOVERING (R24, R104). -/
def recoveringSettled (s : State) : State :=
  let s1 := enterState (if s.cycle.due = .none then .inService else .waiting) s
  if s1.arb.claim.isHold then releaseFinished s1 else s1

/-- The settlement report of a set (R2). In a wash step the step timer counts from it; the outcome of a wash
in RETURNING is always set there, and ABANDONED stands for one that is not (log 16). -/
def onSettled (s : State) : State :=
  match s.cycle.state with
  | .returning => completeWash (s.cycle.outcome.getD .abandoned) s
  | .recovering => recoveringSettled s
  | .isolating => enterState .isolated s
  | _ => s

/-- Entry into RECOVERING, RETURNING or ISOLATING: the set is commanded; a channel that faults at its
command locks the station out (R27); a set settled at the command is taken at that event (R2). -/
def enterCommanding (new : CycleState) (set : ValveSet) (s : State) : State :=
  let s1 := enterState new s
  let s2 := commandSet set s1
  if s1.valves.commandFaults set then lockOut s2
  else if s2.settled then onSettled s2
  else s2

/-- Entry into RECOVERING (R24). -/
def enterRecovering (s : State) : State := enterCommanding .recovering serviceSet s

/-- Entry into RETURNING (R21). -/
def enterReturning (s : State) : State := enterCommanding .returning serviceSet s

/-- Entry into ISOLATING (R25). -/
def enterIsolating (s : State) : State := enterCommanding .isolating allClosedSet s

/-! ### The wash -/

/-- The backwash seconds as the step timer gives them in BACKWASH, kept in every other step (R15, R18). -/
def closeBackwash (s : State) : State :=
  if s.cycle.state = .backwash then
    s.setCycle { s.cycle with backwashSeconds := s.cycle.stepTimer / 100 }
  else s

/-- A wash step is cut short (R18 to R20): the outcome replaces one already set, the backwash seconds are
kept, and the cycle enters RETURNING. -/
def cutShort (outcome : WashOutcome) (s : State) : State :=
  let s1 := closeBackwash s
  enterReturning (s1.setCycle { s1.cycle with outcome := some outcome })

/-- Entry into a wash step: its set is commanded (R2). A channel that faults at its command cuts the wash
short (R20). -/
def enterStep (step : CycleState) (s : State) : State :=
  let s1 := enterState step s
  let s2 := commandSet (stepSet step) s1
  if s1.valves.commandFaults (stepSet step) then cutShort .cutShortValve s2 else s2

/-- Entry into DRAIN_DOWN (R13). -/
def enterDrainDown (s : State) : State := enterStep .drainDown (clearOutcome s)

/-- The step of a wash has run its time: its set has settled and the step timer has reached the time × 100
(R13, R14, R17). -/
def stepDone (step : CycleState) (seconds : Nat) (s : State) : Bool :=
  s.cycle.state = step && s.settled && seconds * 100 ≤ s.cycle.stepTimer

/-- BACKWASH ends COMPLETE (R15): at or above the minimum with the clear held. -/
def backwashClear (s : State) : Bool :=
  stepDone .backwash s.cfg.backwashMin s && 2000 ≤ s.cycle.clearHold

/-- BACKWASH ends with an outcome, and SETTLE is entered (R15). -/
def endBackwash (outcome : WashOutcome) (s : State) : State :=
  let s1 := closeBackwash s
  enterStep .settle (s1.setCycle { s1.cycle with outcome := some outcome })

/-! ### Valve reports -/

/-- The contest ends at a valve fault: an INTENT is withdrawn; a forced hold has ended it already (R97). -/
def endContestAtFault (s : State) : State := if s.arb.claim.isIntent then withdraw s else s

/-- A fault report of a channel as the cycle controller takes it in its state (R20, R23, R27, R28, R31). -/
def valveFault (s : State) : State :=
  match s.cycle.state with
  | .starting | .lockedOut => s
  | .inService | .waiting => enterRecovering s
  | .contest => enterRecovering (endContestAtFault s)
  | .drainDown | .airScour | .backwash | .settle | .rinse => cutShort .cutShortValve s
  | .recovering | .returning | .isolating | .isolated => lockOut s

/-- A confirmation of a channel: the last of the six settles the set, once (R2). -/
def valveConfirmed (v : ValveId) (s : State) : State :=
  let s1 := s.setCycle { s.cycle with confirmed := s.cycle.confirmed.mark v }
  if !s.settled && s1.settled then onSettled s1 else s1

/-- A channel has changed by an event of its own and made a report: the waste valve's report goes to the
arbiter, then the report to the cycle controller (R66, R67; log 12). -/
def channelEvent (v : ValveId) (change : Valve × Report) (s : State) : State :=
  let s1 := wasteReport v (s.valves.get v).state change.1.state (s.setValves (s.valves.set v change.1))
  match change.2 with
  | .none => s1
  | .confirmation => valveConfirmed v s1
  | .fault => valveFault s1

/-! ### Due reasons -/

/-- The wait count of a second tick in WAITING (R7). -/
def Cycle.countWait (c : Cycle) : Cycle :=
  if c.waitSeconds < 59 then { c with waitSeconds := c.waitSeconds + 1 }
  else { c with waitSeconds := 0, waitMinutes := incTo 63 c.waitMinutes }

/-- A due reason is set from NONE and WAITING is entered (R3, R5). -/
def raiseDue (r : DueReason) (s : State) : State :=
  enterState .waiting (s.setCycle { s.cycle with due := r, waitMinutes := 0, waitSeconds := 0 })

/-- The due conditions as a second tick evaluates them: raised in IN_SERVICE (R3), upgraded in WAITING and
CONTEST (R4), not evaluated elsewhere. -/
def evaluateDue (s : State) : State :=
  let r := s.dueCondition
  match s.cycle.state with
  | .inService => if r = .none then s else raiseDue r s
  | .waiting | .contest => if s.cycle.due.code < r.code then s.setCycle { s.cycle with due := r } else s
  | _ => s

/-- The cycle controller's work at a second tick: the run seconds (R6), the wait count (R7), the due
conditions (R3, R4). -/
def cycleSecond (s : State) : State :=
  let c1 := if s.cycle.state.filtering then
      { s.cycle with runSeconds := incTo 4294967295 s.cycle.runSeconds } else s.cycle
  let c2 := if s.cycle.state = .waiting then c1.countWait else c1
  evaluateDue (s.setCycle c2)

/-- The OPERATOR reason of a WASH_NOW or a MANUAL_WASH edge (R5), in a state that takes it. -/
def operatorWash (s : State) : State :=
  match s.cycle.state with
  | .inService => raiseDue .operator s
  | .waiting | .contest => s.setCycle { s.cycle with due := .operator }
  | _ => s

/-! ### The contest -/

/-- The contest entry (R92, R8): the urgency is frozen, the claim becomes INTENT in phase PENDING, a CLAIM
INTENT is offered and the cycle enters CONTEST. -/
def enterContest (s : State) : State :=
  let u := formedUrgency s
  let n := s.arb.intentNumber + 1
  enterState .contest
    (offerIntent u n
      (s.setArb { s.arb with claim := .intent u .pending, windowTimer := 0, intentNumber := n }))

/-- In WAITING with the claim NONE, the admission test is run where the conditions for a new intent hold,
and a contest is entered where it passes (R92). -/
def tryContest (s : State) : State :=
  if s.cycle.state = .waiting && s.arb.claim = .none && intentConditions s && admission s
  then enterContest s else s

/-- A loss (R94, R10): RELEASE(WITHDRAWN), the claim NONE, the back-off set, one contest lost counted where
`counted`, and the cycle back in WAITING. -/
def loseContest (counted : Bool) (s : State) : State :=
  let s1 := setBackoff (withdraw s)
  let s2 := if counted then s1.setArb { s1.arb with contestsLost := satInc s1.arb.contestsLost } else s1
  enterState .waiting s2

/-- A contest is running: INTENT in CONTEST. -/
def inContest (s : State) : Bool := s.cycle.state = .contest && s.arb.claim.isIntent

/-- The win (R95, R9): HOLD at the frozen urgency, and DRAIN_DOWN. -/
def winContest (urgency : Nat) (s : State) : State := enterDrainDown (takeHold urgency s)

/-- An overlap is counted, and yielded to where DRAIN_DOWN or AIR_SCOUR is on and the newcomer has
precedence (R106, R107). -/
def takeOverlap (newcomer : PeerEntry) (s : State) : State :=
  let s1 := s.setArb { s.arb with overlaps := satInc s.arb.overlaps }
  if (s.cycle.state = .drainDown || s.cycle.state = .airScour) && hasPrecedence s newcomer
  then cutShort .yielded s1 else s1

/-- A change report of the peer table (R81), with the entry where it is marked as an entry into HOLD: taken
in CONTEST as a re-run of the test (R94), in WAITING as a possible contest entry (R92), with a HOLD in a
wash step as the overlap test at an entry into HOLD (R106), and otherwise without effect. -/
def changeReport (holdEntry : Option PeerEntry) (s : State) : State :=
  if inContest s then
    if admission s then s else loseContest true s
  else if s.cycle.state.washStep && s.arb.claim.isHold then
    match holdEntry with
    | none => s
    | some e => if overlapPasses s then s else takeOverlap e s
  else tryContest s

/-- Effective inhibit becoming set, or TANK_LOW asserting, ends a contest as a loss not counted (R94). -/
def endContestUncounted (s : State) : State := if inContest s then loseContest false s else s

/-- The link OFF report as the cycle controller and the arbiter take it (R11, R18, R96, R100). -/
def linkOffReport (s : State) : State :=
  if s.cycle.state.washStep then cutShort .cutShortLink s
  else if s.cycle.state = .contest then
    enterState .waiting (if s.arb.claim.isIntent then setBackoff (dropClaim s) else s)
  else s

end Sys2Proof.Machine
end

