-- ==== Sys2Proof/Machine/PeerTable.lean ====
section
/-! DEFINITION. The peer table (04): entries by station number, what an arrival or a lapse makes of one, and
the change reports to the share arbiter. -/

namespace Sys2Proof.Machine

/-- The entry of a station. -/
def findEntry (p : Nat) (es : List PeerEntry) : Option PeerEntry := es.find? fun e => e.station = p

/-- The entry put in its place, by rising station number; it replaces one of the same number. -/
def putEntry (e : PeerEntry) : List PeerEntry → List PeerEntry
  | [] => [e]
  | x :: rest =>
    if e.station < x.station then e :: x :: rest
    else if e.station = x.station then e :: rest
    else x :: putEntry e rest

/-- The table without a station's entry. -/
def dropEntry (p : Nat) (es : List PeerEntry) : List PeerEntry := es.filter fun e => e.station != p

/-- A new entry: the status part absent and the claim NONE (R71). -/
def newEntry (p group : Nat) : PeerEntry :=
  { station := p, group := group, status := none, claim := .none, claimAge := 0 }

/-- An entry whose status part is absent and whose claim is NONE is not kept (R79). -/
def PeerEntry.empty (e : PeerEntry) : Bool := e.status.isNone && e.claim = .none

/-- What the share arbiter reads of an entry: the changes that give a report (R81). -/
def PeerEntry.visible (e : PeerEntry) : Nat × Option CycleState × PeerClaim :=
  (e.group, e.status.map PeerStatus.code, e.claim)

/-- The table takes what an event makes of station p's entry: kept in its place, or removed (R79). -/
def storeEntry (p : Nat) (e : Option PeerEntry) (es : List PeerEntry) : List PeerEntry :=
  match e with
  | some e => putEntry e es
  | none => dropEntry p es

/-- The entry as it stands after the removal check (R79). -/
def keptEntry (e : PeerEntry) : Option PeerEntry := if e.empty then none else some e

/-- An event changes station p's entry to `e`, or removes it; a change in what the arbiter reads is
reported at the event (R81), marked with the entry where it is an entry into HOLD. -/
def changeEntry (p : Nat) (e : Option PeerEntry) (intoHold : Bool) (s : State) : State :=
  let old := findEntry p s.peers.entries
  let s1 := s.setPeers { s.peers with entries := storeEntry p e s.peers.entries }
  if old.map PeerEntry.visible = e.map PeerEntry.visible then s1
  else changeReport (if intoHold then e else none) s1

/-- The entry on which an arrival from p is taken: that held, or a new one, with the group of the frame's
identifier (R71). -/
def entryAt (p group : Nat) (es : List PeerEntry) : PeerEntry :=
  match findEntry p es with
  | some e => { e with group := group }
  | none => newEntry p group

/-- A STATUS (R72). -/
def PeerEntry.takeStatus (e : PeerEntry) (code : CycleState) : PeerEntry :=
  { e with status := some { code := code, age := 0 } }

/-- A CLAIM INTENT (R74). -/
def PeerEntry.takeIntent (e : PeerEntry) (urgency flow : Nat) : PeerEntry :=
  { e with claim := .intent urgency flow, claimAge := 0 }

/-- A CLAIM HOLD (R75). -/
def PeerEntry.takeHold (e : PeerEntry) (urgency flow : Nat) : PeerEntry :=
  { e with claim := .hold urgency flow, claimAge := 0 }

/-- The claim becomes NONE: a RELEASE (R76), an intent lapse (R77) or a hold lapse (R78). -/
def PeerEntry.clearClaim (e : PeerEntry) : PeerEntry := { e with claim := .none, claimAge := 0 }

/-- The status part lapses (R73). -/
def PeerEntry.clearStatus (e : PeerEntry) : PeerEntry := { e with status := none }

/-- The claim is HOLD. -/
def PeerClaim.isHold : PeerClaim → Bool
  | .hold _ _ => true
  | .none | .intent _ _ => false

/-- A STATUS arrival from p (R71, R72). -/
def peerStatus (p group : Nat) (code : CycleState) (s : State) : State :=
  changeEntry p (some ((entryAt p group s.peers.entries).takeStatus code)) false s

/-- A CLAIM INTENT arrival from p (R71, R74). -/
def peerIntent (p group urgency flow : Nat) (s : State) : State :=
  changeEntry p (some ((entryAt p group s.peers.entries).takeIntent urgency flow)) false s

/-- A CLAIM HOLD arrival from p: an entry into HOLD where the claim before it was NONE or INTENT, else a
refresh (R71, R75). -/
def peerHold (p group urgency flow : Nat) (s : State) : State :=
  let e := entryAt p group s.peers.entries
  changeEntry p (some (e.takeHold urgency flow)) (!e.claim.isHold) s

/-- A CLAIM RELEASE arrival from p (R71, R76, R79). -/
def peerRelease (p group : Nat) (s : State) : State :=
  changeEntry p (keptEntry (entryAt p group s.peers.entries).clearClaim) false s

/-- A READING arrival from p keeps the group of an existing entry current (R71). -/
def peerReading (p group : Nat) (s : State) : State :=
  match findEntry p s.peers.entries with
  | none => s
  | some e => changeEntry p (some { e with group := group }) false s

/-- The status part of an entry is due to lapse (R73). -/
def PeerEntry.statusDue (e : PeerEntry) : Bool :=
  match e.status with
  | some st => 400 ≤ st.age
  | none => false

/-- The claim of an entry is an INTENT due to lapse (R77). -/
def PeerEntry.intentDue (e : PeerEntry) : Bool := e.claim.isIntent && 300 ≤ e.claimAge

/-- The claim of an entry is a HOLD due to lapse (R78). -/
def PeerEntry.holdDue (e : PeerEntry) (lapse : Nat) : Bool := e.claim.isHold && lapse * 100 ≤ e.claimAge

/-- The lapse of p's status part, counted (R73, R79). -/
def lapseStatus (p : Nat) (s : State) : State :=
  match findEntry p s.peers.entries with
  | some e =>
    if e.statusDue then
      changeEntry p (keptEntry e.clearStatus) false
        (s.setPeers { s.peers with statusLapses := satInc s.peers.statusLapses })
    else s
  | none => s

/-- The lapse of p's INTENT, not counted (R77, R79). -/
def lapseIntent (p : Nat) (s : State) : State :=
  match findEntry p s.peers.entries with
  | some e => if e.intentDue then changeEntry p (keptEntry e.clearClaim) false s else s
  | none => s

/-- The lapse of p's HOLD, counted (R78, R79). -/
def lapseHold (p : Nat) (s : State) : State :=
  match findEntry p s.peers.entries with
  | some e =>
    if e.holdDue s.cfg.claimLapse then
      changeEntry p (keptEntry e.clearClaim) false
        (s.setPeers { s.peers with claimLapses := satInc s.peers.claimLapses })
    else s
  | none => s

/-- The tick's count of an entry's ages (R73, R77, R78): the status age while present, the claim age while
INTENT or HOLD. -/
def PeerEntry.countTick (e : PeerEntry) : PeerEntry :=
  { e with
    status := e.status.map fun st => { st with age := incTo 400 st.age },
    claimAge := if e.claim = .none then e.claimAge else incTo 60000 e.claimAge }

end Sys2Proof.Machine
end

