-- ==== Sys2Proof/Machine/Reset.lean ====
section
/-! DEFINITION. The three kinds of reset (09, section 10.1): the value each block takes (R1, R35, R42, R53,
R69, R85, R109, R127, R143) and what LINE and REQUEST keep (09, section 10.7); and the straps (R160). -/

namespace Sys2Proof.Machine

/-- The kinds of reset (00, section 1.6). -/
inductive ResetKind where
  | power | line | request
  deriving DecidableEq, Repr

def ResetKind.cause : ResetKind → ResetCause
  | .power => .power
  | .line => .line
  | .request => .request

/-- A value that a POWER reset sets to its reset value and a LINE or REQUEST reset keeps. -/
def ResetKind.keep {α : Type} (k : ResetKind) (kept fresh : α) : α :=
  match k with
  | .power => fresh
  | .line | .request => kept

/-- Every discrete input reads released, and its pin stands as it was (R155). -/
def Inputs.atReset (x : Inputs) : Inputs :=
  { manualWash := .fresh x.manualWash.raw, inhibitKey := .fresh x.inhibitKey.raw,
    tankLow := .fresh x.tankLow.raw, flowOk := .fresh x.flowOk.raw, doseFb := .fresh x.doseFb.raw }

/-- Every channel is provisionally STOPPED, its switches released and its pins as they were (R53). -/
def Valves.atReset (x : Valves) : Valves :=
  x.map fun _ c => .fresh c.openSwitch.raw c.closedSwitch.raw

def Cycle.atReset (k : ResetKind) (c : Cycle) : Cycle :=
  { State.reset.cycle with
    runSeconds := k.keep c.runSeconds 0, records := k.keep c.records [] }

def PeerTable.atReset (k : ResetKind) (x : PeerTable) : PeerTable :=
  { State.reset.peers with
    statusLapses := k.keep x.statusLapses 0, claimLapses := k.keep x.claimLapses 0 }

def Arbiter.atReset (k : ResetKind) (x : Arbiter) : Arbiter :=
  { State.reset.arb with
    contestsLost := k.keep x.contestsLost 0, overlaps := k.keep x.overlaps 0 }

def Dosing.atReset (k : ResetKind) (x : Dosing) : Dosing :=
  { State.reset.dose with
    strokeCount := k.keep x.strokeCount 0, duplicateReadings := k.keep x.duplicateReadings 0 }

def Link.atReset (k : ResetKind) (x : Link) : Link :=
  { State.reset.link with
    formatErrors := k.keep x.formatErrors 0, signalErrors := k.keep x.signalErrors 0,
    txFailures := k.keep x.txFailures 0, linkOffs := k.keep x.linkOffs 0,
    firstError := k.keep x.firstError .none }

def Requests.atReset (k : ResetKind) (x : Requests) : Requests :=
  { inhibitFlag := false, resetCause := k.cause, pendingRestart := false, dropped := k.keep x.dropped 0 }

/-- The station number ST4-ST0 of the strap pins, ST0 being bit 0 (R160). -/
def strapStation (straps : BitVec 8) : Nat := straps.toNat % 32

/-- The pool group GP2-GP0 of the strap pins, GP0 being bit 5 (R160). -/
def strapGroup (straps : BitVec 8) : Nat := straps.toNat / 32

/-- The loader at the end of a reset: the straps read, the load under way (R160, R162). -/
def Loader.atReset (straps : BitVec 8) : Loader :=
  { State.reset.load with station := strapStation straps, group := strapGroup straps }

/-- A reset of a kind to its end: every block takes its values, the timebase starts afresh, the straps are
read and the load begins (R159). The queue and the pins are no part of the station. -/
def resetStation (k : ResetKind) (s : State) : State where
  supplyOk := s.supplyOk
  phase := 0
  pins := s.pins
  inputs := s.inputs.atReset
  scan := State.reset.scan
  cycle := s.cycle.atReset k
  valves := s.valves.atReset
  peers := s.peers.atReset k
  arb := s.arb.atReset k
  dose := s.dose.atReset k
  link := s.link.atReset k
  req := s.req.atReset k
  load := .atReset s.pins.straps
  serial := s.serial
  pending := s.pending

/-- The strap pins stand at the given levels (R160). -/
def setStraps (straps : BitVec 8) (s : State) : State := s.setPins { s.pins with straps := straps }

/-- A restart is carried out as a reset of kind REQUEST (R153). -/
def restartStation (s : State) : State := resetStation .request s

end Sys2Proof.Machine
end

