-- ==== Sys2Proof/Machine/Loader.lean ====
section
/-! DEFINITION. The configuration loader (09, sections 10.4 to 10.6): the checks, the per-field and
cross-field clamps, the settling of the load, and the end of STARTING. -/

namespace Sys2Proof.Machine

/-- A value below its range is raised to the lower bound, one above it lowered to the upper (R164). -/
def clampTo (lo hi v : Nat) : Nat := max lo (min hi v)

/-- Max run has a gap: 0 is taken as 0, and another value is clamped to 24-336 (R164). -/
def clampMaxRun (v : Nat) : Nat := if v = 0 then 0 else clampTo 24 336 v

/-- The per-field clamps (R164). -/
def clampFields (c : WorkingConfig) : WorkingConfig where
  qref := clampTo 100 5000 c.qref
  qmin := clampTo 10 80 c.qmin
  dpSpan := clampTo 100 2500 c.dpSpan
  flowSpan := clampTo 100 6000 c.flowSpan
  turbiditySpan := clampTo 100 10000 c.turbiditySpan
  chlorineSpan := clampTo 200 1000 c.chlorineSpan
  d0Default := clampTo 10 1000 c.d0Default
  dlim := clampTo 200 2000 c.dlim
  loadingTrigger := clampTo 500 1000 c.loadingTrigger
  loadingHold := clampTo 10 600 c.loadingHold
  breakthroughLimit := clampTo 10 500 c.breakthroughLimit
  breakthroughHold := clampTo 10 600 c.breakthroughHold
  maxRun := clampMaxRun c.maxRun
  washFlow := clampTo 1 255 c.washFlow
  drainCapacity := clampTo 1 2000 c.drainCapacity
  groupMinimum := clampTo 0 7 c.groupMinimum
  contestWindow := clampTo 20 200 c.contestWindow
  claimLapse := clampTo 30 600 c.claimLapse
  travelTimeout := clampTo 10 120 c.travelTimeout
  drainDownTime := clampTo 30 600 c.drainDownTime
  airScourTime := clampTo 0 600 c.airScourTime
  backwashMin := clampTo 60 900 c.backwashMin
  backwashMax := clampTo 60 1200 c.backwashMax
  wasteClearLevel := clampTo 50 2000 c.wasteClearLevel
  settleTime := clampTo 10 300 c.settleTime
  rinseTime := clampTo 30 600 c.rinseTime
  sampleHolder := clampTo 0 1 c.sampleHolder
  setpoint := clampTo 50 500 c.setpoint
  baseDose := clampTo 0 500 c.baseDose
  trimGain := clampTo 0 64 c.trimGain
  maxDose := clampTo 50 1000 c.maxDose
  highCut := clampTo 100 1000 c.highCut
  phLow := clampTo 600 900 c.phLow
  phHigh := clampTo 600 900 c.phHigh
  strength := clampTo 50 180 c.strength
  strokeVolume := clampTo 100 20000 c.strokeVolume
  minStrokeInterval := clampTo 30 300 c.minStrokeInterval
  strokeWidth := clampTo 2 20 c.strokeWidth

/-- The six cross-field clamps (R165). None of them reads a field that another moves, so their order is
kept by one update. -/
def clampAcross (c : WorkingConfig) : WorkingConfig :=
  { c with
    dlim := max c.dlim (c.d0Default + 100),
    backwashMax := max c.backwashMax c.backwashMin,
    phHigh := max c.phHigh (c.phLow + 20),
    washFlow := min c.washFlow c.drainCapacity,
    claimLapse := max c.claimLapse (c.travelTimeout + 10),
    minStrokeInterval := max c.minStrokeInterval (2 * c.strokeWidth) }

/-- One clamp moved a value, or did not. -/
def movedOne (a b : Nat) : Nat := if a = b then 0 else 1

/-- How many fields two configurations differ in: the moves between them (R164, R165). -/
def movedFields (a b : WorkingConfig) : Nat :=
  movedOne a.qref b.qref + movedOne a.qmin b.qmin + movedOne a.dpSpan b.dpSpan
  + movedOne a.flowSpan b.flowSpan + movedOne a.turbiditySpan b.turbiditySpan
  + movedOne a.chlorineSpan b.chlorineSpan + movedOne a.d0Default b.d0Default + movedOne a.dlim b.dlim
  + movedOne a.loadingTrigger b.loadingTrigger + movedOne a.loadingHold b.loadingHold
  + movedOne a.breakthroughLimit b.breakthroughLimit + movedOne a.breakthroughHold b.breakthroughHold
  + movedOne a.maxRun b.maxRun + movedOne a.washFlow b.washFlow
  + movedOne a.drainCapacity b.drainCapacity + movedOne a.groupMinimum b.groupMinimum
  + movedOne a.contestWindow b.contestWindow + movedOne a.claimLapse b.claimLapse
  + movedOne a.travelTimeout b.travelTimeout + movedOne a.drainDownTime b.drainDownTime
  + movedOne a.airScourTime b.airScourTime + movedOne a.backwashMin b.backwashMin
  + movedOne a.backwashMax b.backwashMax + movedOne a.wasteClearLevel b.wasteClearLevel
  + movedOne a.settleTime b.settleTime + movedOne a.rinseTime b.rinseTime
  + movedOne a.sampleHolder b.sampleHolder + movedOne a.setpoint b.setpoint
  + movedOne a.baseDose b.baseDose + movedOne a.trimGain b.trimGain + movedOne a.maxDose b.maxDose
  + movedOne a.highCut b.highCut + movedOne a.phLow b.phLow + movedOne a.phHigh b.phHigh
  + movedOne a.strength b.strength + movedOne a.strokeVolume b.strokeVolume
  + movedOne a.minStrokeInterval b.minStrokeInterval + movedOne a.strokeWidth b.strokeWidth

/-- The outcome of the checks, in their order: an acknowledgement missing, the version, the checksum (R162,
R163). -/
def judgeBlock (acks : Bool) (block : List Byte) : LoadOutcome :=
  if !acks then .absent
  else if storedVersion block != 1 then .version
  else if storedChecksum block != fieldSum block then .checksum
  else .good

/-- The working configuration and the clamped-field count that an outcome gives (R164, R165, R167). -/
def settledConfig (outcome : LoadOutcome) (block : List Byte) : WorkingConfig × Nat :=
  match outcome with
  | .good =>
    let stored := storedConfig block
    let fields := clampFields stored
    let working := clampAcross fields
    (working, movedFields stored fields + movedFields fields working)
  | .absent | .checksum | .version => (builtInDefaults, 0)

/-- Qmin_abs (R39). -/
def qminAbsOf (cfg : WorkingConfig) : Nat := cfg.qref * cfg.qmin / 100

/-- Scanning begins (R33): each channel has its tick of ten, a free value (log 7). -/
def beginScanning (serial : Nat) (cfg : WorkingConfig) (x : Scanner) : Scanner :=
  { x with
    channels :=
      { dp := { x.channels.dp with phase := Config.scanPhase serial 0 % 10 },
        flow := { x.channels.flow with phase := Config.scanPhase serial 1 % 10 },
        outletTurbidity := { x.channels.outletTurbidity with phase := Config.scanPhase serial 2 % 10 },
        wasteTurbidity := { x.channels.wasteTurbidity with phase := Config.scanPhase serial 3 % 10 },
        chlorine := { x.channels.chlorine with phase := Config.scanPhase serial 4 % 10 },
        ph := { x.channels.ph with phase := Config.scanPhase serial 5 % 10 } },
    scanCount := 0, qminAbs := qminAbsOf cfg, d0 := cfg.d0Default }

/-- The load settles (R162 to R167), where one is under way: outcome, working configuration and clamped
count, Qmin_abs, D0 at its default (R44), and scanning begun. -/
def settleLoad (acks : Bool) (block : List Byte) (s : State) : State :=
  match s.load.outcome with
  | some _ => s
  | none =>
    let outcome := judgeBlock acks block
    let (cfg, clamped) := settledConfig outcome block
    ((s.setLoad { s.load with outcome := some outcome, clamped := clamped, config := cfg }).setScan
      (beginScanning s.serial cfg s.scan)).setSerial (s.serial + 1)

/-- The tick at which STARTING ends (R161): the sixth after the reset, by which the load has settled. -/
def startingOver (s : State) : Bool :=
  s.cycle.state = .starting && s.load.outcome.isSome && 6 ≤ s.phase

/-- STARTING ends (R161): the start survey of the six channels (R55), the survey as the arbiter takes it
(R102), the reading period count at 0 (R111), and the entry into RECOVERING (R31). A channel surveyed into
FAULT reports in STARTING, which changes nothing (R31). Told before its tick it has no effect (R55, log 2). -/
def endStarting (s : State) : State :=
  if startingOver s then
    let s1 := arbiterSurvey (s.setValves (s.valves.map fun _ c => c.survey))
    enterRecovering (s1.setDose { s1.dose with periodCount := 0 })
  else s

/-! ### The read transaction on the serial line (R162) -/

/-- What the loader does on the two-wire line: the conditions, the bytes it sends, each followed by an
acknowledgement bit of the memory, and the bytes it receives, each with whether it acknowledges it. -/
inductive LineStep where
  | start | repeatedStart | stop
  | send (b : Byte)
  | receive (acknowledged : Bool)
  deriving DecidableEq, Repr

/-- The bit times of a step: one for a condition, nine for a byte with its acknowledgement bit (R162). -/
def LineStep.bitTimes : LineStep → Nat
  | .start | .repeatedStart | .stop => 1
  | .send _ | .receive _ => 9

/-- The read transaction as the memory acknowledges it (R162): the device select byte is the code 80 times
2, plus 1 for the read direction; at a missing acknowledgement the stop is sent at once. -/
def readTransaction (ackWrite ackAddress ackRead : Bool) : List LineStep :=
  [.start, .send 160] ++
  (if !ackWrite then [.stop]
   else [.send 0] ++
    (if !ackAddress then [.stop]
     else [.repeatedStart, .send 161] ++
      (if !ackRead then [.stop]
       else List.replicate 69 (.receive true) ++ [.receive false, .stop])))

end Sys2Proof.Machine
end

