-- ==== Sys2Proof/Machine/Requests.lean ====
section
/-! DEFINITION. The request handler (08): the judgement of a REQUEST, what each request does when taken, and
its ANSWER. -/

namespace Sys2Proof.Machine

/-- The twelve request codes (R144, 08 section 9.3); the table row RETURN is `returnToService`. -/
inductive RequestCode where
  | washNow | abandonWash | inhibitSet | inhibitClear | isolate | returnToService | doseReset
  | readCounters | clearCounters | readWashRecord | restart | clearResetCause
  deriving DecidableEq, Repr

/-- The request of a code; none of code 0 or above 12 (R144, step 3). -/
def RequestCode.ofCode : Nat → Option RequestCode
  | 1 => some .washNow | 2 => some .abandonWash | 3 => some .inhibitSet | 4 => some .inhibitClear
  | 5 => some .isolate | 6 => some .returnToService | 7 => some .doseReset | 8 => some .readCounters
  | 9 => some .clearCounters | 10 => some .readWashRecord | 11 => some .restart
  | 12 => some .clearResetCause | _ => none

def RequestCode.code : RequestCode → Nat
  | .washNow => 1 | .abandonWash => 2 | .inhibitSet => 3 | .inhibitClear => 4 | .isolate => 5
  | .returnToService => 6 | .doseReset => 7 | .readCounters => 8 | .clearCounters => 9
  | .readWashRecord => 10 | .restart => 11 | .clearResetCause => 12

/-! ### What each request does when taken -/

/-- ABANDON_WASH (R12, R18, R97): a wait or a contest ends in IN_SERVICE without a due reason; a wash step
is cut short as ABANDONED. -/
def abandonWash (s : State) : State :=
  if s.cycle.state.washStep then cutShort .abandoned s
  else
    let s1 := if s.cycle.state = .contest && s.arb.claim.isIntent then withdraw s else s
    enterState .inService (clearDue s1)

/-- INHIBIT_SET (R148): where effective inhibit becomes set, a contest ends as a loss not counted. -/
def setInhibit (s : State) : State :=
  let s1 := s.setReq { s.req with inhibitFlag := true }
  if s.inhibited then s1 else endContestUncounted s1

/-- INHIBIT_CLEAR (R148). -/
def clearInhibit (s : State) : State := s.setReq { s.req with inhibitFlag := false }

/-- ISOLATE (R25). -/
def isolate (s : State) : State := enterIsolating (clearDue s)

/-- DOSE_RESET (R125). -/
def resetDosing (s : State) : State := s.setDose s.dose.clearFault

/-- The four counters of bank 0 and the first error code (R141, R150). -/
def Link.clearCounters (l : Link) : Link :=
  { l with formatErrors := 0, signalErrors := 0, txFailures := 0, linkOffs := 0, firstError := .none }

/-- CLEAR_COUNTERS (R150). -/
def clearAllCounters (s : State) : State :=
  ((((s.setLink s.link.clearCounters).setPeers { s.peers with statusLapses := 0, claimLapses := 0 }).setArb
    { s.arb with contestsLost := 0, overlaps := 0 }).setReq { s.req with dropped := 0 }).setDose
    { s.dose with duplicateReadings := 0 }

/-- CLEAR_RESET_CAUSE (R154). -/
def forgetResetCause (s : State) : State := s.setReq { s.req with resetCause := .none }

/-- The pending-restart mark is set (R152). -/
def markRestart (s : State) : State := s.setReq { s.req with pendingRestart := true }

/-! ### Judgement and answer (R144, R145) -/

/-- The request is taken in the present state (R144 step 5, the table of 08 section 9.3). -/
def takenInState (code : RequestCode) (s : State) : Bool :=
  match code with
  | .washNow => s.cycle.state.filtering
  | .abandonWash => s.cycle.state = .waiting || s.cycle.state = .contest || s.cycle.state.washStep
  | .isolate => s.cycle.state = .inService || s.cycle.state = .waiting
  | .returnToService => s.cycle.state = .isolated
  | .doseReset => s.dose.mode = .fault
  | .inhibitSet | .inhibitClear | .readCounters | .clearCounters | .readWashRecord | .restart
  | .clearResetCause => true

/-- The request's argument is in its range (R144, step 6). -/
def argumentTaken (code : RequestCode) (arg : Nat) : Bool :=
  match code with
  | .readCounters => arg ≤ 2
  | .readWashRecord => arg ≤ 3
  | .washNow | .abandonWash | .inhibitSet | .inhibitClear | .isolate | .returnToService | .doseReset
  | .clearCounters | .restart | .clearResetCause => true

/-- The outcome of R144's steps 4 to 7. -/
def judgeRequest (code : RequestCode) (arg : Nat) (s : State) : AnswerOutcome :=
  if code = .washNow && s.restricted then .refusedRestricted
  else if !takenInState code s then .refusedState
  else if !argumentTaken code arg then .refusedArgument
  else .taken

/-- What a request that is taken does, but for RESTART's reset (08, section 9.3). -/
def carryOut (code : RequestCode) (s : State) : State :=
  match code with
  | .washNow => operatorWash s
  | .abandonWash => abandonWash s
  | .inhibitSet => setInhibit s
  | .inhibitClear => clearInhibit s
  | .isolate => isolate s
  | .returnToService => enterRecovering s
  | .doseReset => resetDosing s
  | .readCounters | .readWashRecord => s
  | .clearCounters => clearAllCounters s
  | .restart => markRestart s
  | .clearResetCause => forgetResetCause s

/-- The seven data bytes of the ANSWER to a request taken, from the state after it (R145, R149, R151). -/
def answerDataOf (code : RequestCode) (arg : Nat) (s : State) : List Byte :=
  match code with
  | .readCounters => bankData s arg
  | .readWashRecord => recordData s arg
  | .washNow | .abandonWash | .inhibitSet | .inhibitClear | .isolate | .returnToService | .doseReset
  | .clearCounters | .restart | .clearResetCause => zeroData

/-- A request taken: carried out and then answered (R144 step 7, R145). RESTART's ANSWER is marked; with
the link OFF it is lost and the restart is carried out at the arrival (R152). -/
def takeRequest (panel : Nat) (code : RequestCode) (arg : Nat) (s : State) : State :=
  if code = .restart && s.link.mode = .off then restartStation s
  else
    let s1 := carryOut code s
    offerAnswer panel code.code .taken (answerDataOf code arg s1) (code = .restart) s1

/-- A REQUEST is dropped whole and counted (R146). -/
def dropRequest (s : State) : State := s.setReq { s.req with dropped := satInc s.req.dropped }

/-- A REQUEST arrival (R144): the steps in their order. -/
def handleRequest (panel code arg : Nat) (s : State) : State :=
  if s.cycle.state = .starting then s
  else if 4 ≤ s.link.answers.length then dropRequest s
  else
    match RequestCode.ofCode code with
    | none => offerAnswer panel code .unknownRequest zeroData false s
    | some c =>
      match judgeRequest c arg s with
      | .taken => takeRequest panel c arg s
      | .refusedState => offerAnswer panel code .refusedState zeroData false s
      | .refusedArgument => offerAnswer panel code .refusedArgument zeroData false s
      | .unknownRequest => offerAnswer panel code .unknownRequest zeroData false s
      | .refusedRestricted => offerAnswer panel code .refusedRestricted zeroData false s

end Sys2Proof.Machine
end

