-- ==== Sys2Proof/Machine/Receive.lean ====
section
/-! DEFINITION. What the link makes of a frame that arrives (R130, R131, R169) and of a fault it sees; and the
request handler's two events of the link (R153). -/

namespace Sys2Proof.Machine

/-- A format error: counted, the frame dropped (R131). -/
def formatError (s : State) : State := s.setLink s.link.countFormatError

/-- The duplicate flag is set (R82). -/
def setDuplicate (s : State) : State := s.setPeers { s.peers with duplicate := true }

/-- A CLAIM of station p, G g (R130 steps 7 to 9, R131). -/
def receiveClaim (p g : Nat) (data : List Byte) (s : State) : State :=
  if data.length != 4 then formatError s
  else
    match byteAt data 0 with
    | 1 => if byteAt data 2 = 0 then formatError s else peerIntent p g (byteAt data 1) (byteAt data 2) s
    | 2 => if byteAt data 2 = 0 then formatError s else peerHold p g (byteAt data 1) (byteAt data 2) s
    | 3 => if 2 < byteAt data 3 then formatError s else peerRelease p g s
    | _ => formatError s

/-- The analyser state of a READING by a valid code (R131). -/
def AnalyserState.ofCode : Nat → Option AnalyserState
  | 0 => some .good
  | 1 => some .channelFault
  | _ => none

/-- A READING of the own group from station p (R130 steps 7 to 9): to the dosing unit and to the peer
table. -/
def receiveReading (p g : Nat) (data : List Byte) (s : State) : State :=
  if data.length != 5 then formatError s
  else
    match AnalyserState.ofCode (byteAt data 4) with
    | none => formatError s
    | some a =>
      peerReading p g (s.setDose (s.dose.takeReading s.sampleHolder p (wordAt data 0) (wordAt data 2) a))

/-- A STATUS of station p, G g (R130 steps 7 to 9). -/
def receiveStatus (p g : Nat) (data : List Byte) (s : State) : State :=
  if data.length != 8 then formatError s
  else
    match CycleState.ofCode (byteAt data 0) with
    | none => formatError s
    | some code => peerStatus p g code s

/-- A REQUEST to this station (R130 steps 7 and 9); bits 7-5 of byte 0 are no part of the code (R169). -/
def receiveRequest (panel : Nat) (data : List Byte) (s : State) : State :=
  if data.length != 2 then formatError s
  else handleRequest panel (byteAt data 0 % 32) (byteAt data 1) s

/-- R130 for a frame of the base format that is no data request: its steps in their order. -/
def judgeFrame (kind g p : Nat) (data : List Byte) (s : State) : State :=
  if 4 ≤ kind then s
  else if kind ≤ 2 && p = s.load.station then setDuplicate s
  else if kind = 0 then receiveClaim p g data s
  else if kind = 1 then if g = s.load.group then receiveReading p g data s else s
  else if kind = 2 then receiveStatus p g data s
  else if p = s.load.station then receiveRequest g data s else s

/-- A frame arrives whole (R130). The link first learns that the frame to which it had lost the medium has
arrived (R135). -/
def receive (f : RxFrame) (s : State) : State :=
  let s1 := s.setLink s.link.afterArrival
  if f.extended || f.dataRequest then s1
  else judgeFrame (kindOf f.ident) (groupOf f.ident) (stationOf f.ident) f.data s1

/-- A failure of the frame in transmission (R135, R137), with the link OFF reports where it takes the link
OFF (R138): the cycle controller and the share arbiter take the report; where a restart is pending the request
handler alone does and carries it out. That the handler is first there is the model's choice (log 13). -/
def failAttempt (s : State) : State :=
  let s1 := s.setLink s.link.fail
  if s.link.failureGoesOff then
    if s.req.pendingRestart then restartStation s1 else linkOffReport s1
  else s1

/-- The completion of an INTENT's transmission as the arbiter takes it (R93): of the INTENT last offered,
while PENDING. -/
def windowStarts (number : Option Nat) (s : State) : State :=
  match s.arb.claim with
  | .intent u .pending =>
    if number = some s.arb.intentNumber then s.setArb { s.arb with claim := .intent u .windowed } else s
  | .intent _ .windowed | .none | .hold _ => s

/-- The completion of a frame as its owner takes it (R136 points 3 and 4, R153). -/
def reportCompletion (kind : TxKind) (s : State) : State :=
  match kind with
  | .claim number => windowStarts number s
  | .answer mark => if mark && s.req.pendingRestart then restartStation s else s
  | .reading | .status => s

end Sys2Proof.Machine
end

