-- ==== Sys2Proof/Machine/Controls.lean ====
section
/-! DEFINITION. What a change of a debounced input does: a limit switch (R54), and the five discrete inputs
(R155 to R157, R124, R148). A change to the level that the input already has is no change. -/

namespace Sys2Proof.Machine

/-- The pin of a line stands at the level that the line already has: no run (R54, R155). -/
def DebouncedLine.stay (l : DebouncedLine) : DebouncedLine := { l with raw := l.level, run := 0 }

/-- A limit switch holds a level for 5 ticks (R54). In STARTING the change goes into the debounced level and
no further. -/
def takeSwitch (v : ValveId) (p : Position) (level : Bool) (s : State) : State :=
  let c := s.valves.get v
  if level = (c.switch p).level then s.setValves (s.valves.set v (c.setSwitch p (c.switch p).stay))
  else
    let c1 := c.setSwitch p (.changeTo level)
    if s.cycle.state = .starting then s.setValves (s.valves.set v c1)
    else channelEvent v (c1.switchChanged p level) s

/-- A rising edge of MANUAL_WASH (R156): a WASH_NOW without an answer; nothing in STARTING, where no
request is taken, and in RESTRICTED operation. -/
def pressManualWash (s : State) : State := if s.restricted then s else operatorWash s

/-- TANK_LOW asserts (R157). -/
def tankRunsLow (s : State) : State :=
  if s.cycle.state.washStep then cutShort .cutShortTank s else endContestUncounted s

/-- INHIBIT_KEY asserts (R148): where the request flag is clear, effective inhibit becomes set. -/
def keyAsserts (s : State) : State := if s.req.inhibitFlag then s else endContestUncounted s

/-- A pump feedback (R124). -/
def takeFeedback (s : State) : State := s.setDose s.dose.feedback

/-- What a rising edge does at its own event; FLOW_OK is read as a level (R115). -/
def risingEdge (i : DiscreteInput) (s : State) : State :=
  match i with
  | .manualWash => pressManualWash s
  | .inhibitKey => keyAsserts s
  | .tankLow => tankRunsLow s
  | .flowOk => s
  | .doseFb => takeFeedback s

/-- A discrete input holds a level for 5 ticks (R155). A falling edge has no effect at its own event. -/
def takeInput (i : DiscreteInput) (level : Bool) (s : State) : State :=
  let l := s.inputs.get i
  if level = l.level then s.setInputs (s.inputs.set i l.stay)
  else
    let s1 := s.setInputs (s.inputs.set i (.changeTo level))
    if level then risingEdge i s1 else s1

end Sys2Proof.Machine
end

