-- ==== Sys2Proof/Machine/Process.lean ====
section
/-! DEFINITION. The commands of measurement and of the wash steps: CONVERSION, CLEAR_HOLD_REACHED and the ends
of the five steps (R13 to R17, R34). An end that is told before its timer stands at its time has no effect
(log 2). -/

namespace Sys2Proof.Machine

/-- An effect that comes about where its timer is due, and none elsewhere (log 2). -/
def whenDue (due : Bool) (effect : State → State) (s : State) : State := if due then effect s else s

/-- CONVERSION (R34 to R37, R16, R50). -/
def execConversion (channel : ChannelId) (count : BitVec 12) (s : State) : Host.Outcome State Fault Refusal :=
  event false (takeConversion channel count) s

/-- The clear-hold timer has reached 2000 (R16): BACKWASH ends COMPLETE, where the minimum has run (R15). -/
def clearHoldReached (s : State) : State := whenDue (backwashClear s) (endBackwash .complete) s

/-- CLEAR_HOLD_REACHED (R15, R16). -/
def execClearHoldReached (s : State) : Host.Outcome State Fault Refusal := event false clearHoldReached s

/-- DRAIN_DOWN ends in AIR_SCOUR, or in BACKWASH where the air scour time is 0 (R13). -/
def endDrainDown (s : State) : State :=
  enterStep (if s.cfg.airScourTime = 0 then .backwash else .airScour) s

/-- DRAIN_DOWN_END (R13). -/
def execDrainDownEnd (s : State) : Host.Outcome State Fault Refusal :=
  event false (whenDue (stepDone .drainDown s.cfg.drainDownTime s) endDrainDown) s

/-- AIR_SCOUR_END (R14). -/
def execAirScourEnd (s : State) : Host.Outcome State Fault Refusal :=
  event false (whenDue (stepDone .airScour s.cfg.airScourTime s) (enterStep .backwash)) s

/-- The end of BACKWASH as its step timer gives it (R15): COMPLETE at or above the minimum with the clear held,
COMPLETE_UNCLEAR at the maximum without. -/
def backwashOver (s : State) : State :=
  if backwashClear s then endBackwash .complete s
  else whenDue (stepDone .backwash s.cfg.backwashMax s) (endBackwash .completeUnclear) s

/-- BACKWASH_END (R15). -/
def execBackwashEnd (s : State) : Host.Outcome State Fault Refusal := event false backwashOver s

/-- SETTLE_END (R17). -/
def execSettleEnd (s : State) : Host.Outcome State Fault Refusal :=
  event false (whenDue (stepDone .settle s.cfg.settleTime s) (enterStep .rinse)) s

/-- RINSE_END (R17, R21). -/
def execRinseEnd (s : State) : Host.Outcome State Fault Refusal :=
  event false (whenDue (stepDone .rinse s.cfg.rinseTime s) enterReturning) s

end Sys2Proof.Machine
end

