-- ==== Sys2Proof/Machine/Arrivals.lean ====
section
/-! DEFINITION. The commands of receiving: the arrivals (R130), a fault seen in a frame of another node (R132),
and the lapses of what was received (R73, R77, R78, R114). -/

namespace Sys2Proof.Machine

/-- CLAIM_INTENT_ARRIVAL (R130, R74). -/
def execClaimIntentArrival (group : BitVec 3) (station : BitVec 5) (data : List Byte) (s : State) :
    Host.Outcome State Fault Refusal :=
  event false (receive (plainFrame 0 group.toNat station.toNat data)) s

/-- CLAIM_HOLD_ARRIVAL (R130, R75, R106, R107). -/
def execClaimHoldArrival (group : BitVec 3) (station : BitVec 5) (data : List Byte) (s : State) :
    Host.Outcome State Fault Refusal :=
  event false (receive (plainFrame 0 group.toNat station.toNat data)) s

/-- CLAIM_RELEASE_ARRIVAL (R130, R76, R79). -/
def execClaimReleaseArrival (group : BitVec 3) (station : BitVec 5) (data : List Byte) (s : State) :
    Host.Outcome State Fault Refusal :=
  event false (receive (plainFrame 0 group.toNat station.toNat data)) s

/-- STATUS_ARRIVAL (R130, R72). -/
def execStatusArrival (group : BitVec 3) (station : BitVec 5) (data : List Byte) (s : State) :
    Host.Outcome State Fault Refusal :=
  event false (receive (plainFrame 2 group.toNat station.toNat data)) s

/-- READING_ARRIVAL (R130, R112, R113, R71). -/
def execReadingArrival (group : BitVec 3) (station : BitVec 5) (data : List Byte) (s : State) :
    Host.Outcome State Fault Refusal :=
  event false (receive (plainFrame 1 group.toNat station.toNat data)) s

/-- ANSWER_ARRIVAL (R130): an ANSWER, or any other frame of another node. -/
def execAnswerArrival (frame : RxFrame) (s : State) : Host.Outcome State Fault Refusal :=
  event false (receive frame) s

/-- A fault seen in a frame of another node (R132); in the frame to which this station has lost the medium it
is a failure of the own frame (R135). -/
def signalError (s : State) : State :=
  match s.link.attempt with
  | .idle => s.setLink s.link.countSignalError
  | .sending | .lost => failAttempt s

/-- RX_SIGNAL_ERROR (R132, R135). -/
def execRxSignalError (s : State) : Host.Outcome State Fault Refusal := event false signalError s

/-- STATUS_LAPSE (R73). -/
def execStatusLapse (station : BitVec 5) (s : State) : Host.Outcome State Fault Refusal :=
  event false (lapseStatus station.toNat) s

/-- INTENT_LAPSE (R77). -/
def execIntentLapse (station : BitVec 5) (s : State) : Host.Outcome State Fault Refusal :=
  event false (lapseIntent station.toNat) s

/-- HOLD_LAPSE (R78). -/
def execHoldLapse (station : BitVec 5) (s : State) : Host.Outcome State Fault Refusal :=
  event false (lapseHold station.toNat) s

/-- The reading age reaches 2000 in a station that is no sample holder (R114). -/
def readingDue (s : State) : Bool := !s.sampleHolder && s.dose.readingAge = 1999

/-- The record ceases to be fresh (R114). -/
def readingGoesStale (s : State) : State := s.setDose { s.dose with readingAge := 2000 }

/-- READING_STALE (R114). -/
def execReadingStale (s : State) : Host.Outcome State Fault Refusal :=
  event false (whenDue (readingDue s) readingGoesStale) s

end Sys2Proof.Machine
end

