-- ==== Sys2Proof/Machine/Claims.lean ====
section
/-! DEFINITION. The commands of the share arbiter's timers: CONTEST_WINDOW_EXPIRY, BACKOFF_END, HOLD_REFRESH. -/

namespace Sys2Proof.Machine

/-- The contest window expires in CONTEST (R95): the test passes and the contest is won. Where it did not pass, which
the rules say cannot be, the contest would stay as it is (log 15). -/
def windowExpires (s : State) : State :=
  match s.arb.claim with
  | .intent u .windowed =>
    if s.cycle.state = .contest && s.cfg.contestWindow ≤ s.arb.windowTimer && admission s
    then winContest u s else s
  | .intent _ .pending | .none | .hold _ => s

/-- CONTEST_WINDOW_EXPIRY (R95, R9, R13). -/
def execContestWindowExpiry (s : State) : Host.Outcome State Fault Refusal := event false windowExpires s

/-- The back-off timer reaches 0 (R98). -/
def backoffDue (s : State) : Bool := s.cycle.state = .waiting && s.arb.backoff = 1

def backoffEnds (s : State) : State := s.setArb { s.arb with backoff := 0 }

/-- BACKOFF_END (R98): nothing else is done at that tick. -/
def execBackoffEnd (s : State) : Host.Outcome State Fault Refusal :=
  event false (whenDue (backoffDue s) backoffEnds) s

/-- The hold refresh timer reaches 200 while HOLD (R99): the timer is 0 and the HOLD is offered again. -/
def refreshHold (s : State) : State :=
  match s.arb.claim with
  | .hold u =>
    if 200 ≤ s.arb.refreshTimer then offerHold u (s.setArb { s.arb with refreshTimer := 0 }) else s
  | .intent _ _ | .none => s

/-- HOLD_REFRESH (R99). -/
def execHoldRefresh (s : State) : Host.Outcome State Fault Refusal := event false refreshHold s

end Sys2Proof.Machine
end

