-- ==== Sys2Proof/Machine/Field.lean ====
section
/-! DEFINITION. The commands of the field lines and the valve channels: LIMIT_SWITCH_CHANGE,
REVERSAL_PAUSE_END, TRAVEL_TIMEOUT and the changes of the five discrete inputs. -/

namespace Sys2Proof.Machine

/-- LIMIT_SWITCH_CHANGE (R54, R60, R62 to R65). -/
def execLimitSwitchChange (v : ValveId) (switch : Position) (level : Bool) (s : State) :
    Host.Outcome State Fault Refusal :=
  event false (takeSwitch v switch level) s

/-- The reversal pause of a channel ends (R58). -/
def pauseEnd (v : ValveId) (s : State) : State := channelEvent v (s.valves.get v).endPause s

/-- REVERSAL_PAUSE_END (R58). -/
def execReversalPauseEnd (v : ValveId) (s : State) : Host.Outcome State Fault Refusal :=
  event false (whenDue (s.valves.get v).pauseEnds (pauseEnd v)) s

/-- A channel's travel times out (R61). -/
def travelTimesOut (v : ValveId) (s : State) : State :=
  channelEvent v ((s.valves.get v).enterFault .travel, .fault) s

/-- TRAVEL_TIMEOUT (R61, R66). -/
def execTravelTimeout (v : ValveId) (s : State) : Host.Outcome State Fault Refusal :=
  event false (whenDue ((s.valves.get v).timedOut s.cfg.travelTimeout) (travelTimesOut v)) s

/-- MANUAL_WASH_EDGE (R155, R156). -/
def execManualWashEdge (s : State) : Host.Outcome State Fault Refusal :=
  event false (takeInput .manualWash true) s

/-- INHIBIT_KEY_CHANGE (R148, R155). -/
def execInhibitKeyChange (level : Bool) (s : State) : Host.Outcome State Fault Refusal :=
  event false (takeInput .inhibitKey level) s

/-- TANK_LOW_ASSERT (R155, R157). -/
def execTankLowAssert (s : State) : Host.Outcome State Fault Refusal := event false (takeInput .tankLow true) s

/-- DOSE_FB_EDGE (R124, R155). -/
def execDoseFbEdge (s : State) : Host.Outcome State Fault Refusal := event false (takeInput .doseFb true) s

/-- DEBOUNCED_INPUT_CHANGE (R155). -/
def execDebouncedInputChange (input : DiscreteInput) (level : Bool) (s : State) :
    Host.Outcome State Fault Refusal :=
  event false (takeInput input level) s

end Sys2Proof.Machine
end

