-- ==== Sys2Proof/Machine/Panel.lean ====
section
/-! DEFINITION. The commands of a panel: one REQUEST frame each (R130, R144). The row's code stands in bits 4-0
of byte 0, bits 7-5 are as sent and no part of the code (R169). -/

namespace Sys2Proof.Machine

/-- A REQUEST frame arrives from a panel. -/
def requestArrives (panel : BitVec 3) (target : BitVec 5) (high : BitVec 3) (code : Nat) (arg : Byte)
    (s : State) : Host.Outcome State Fault Refusal :=
  event false (receive (requestFrame panel.toNat target.toNat high.toNat code arg)) s

/-- WASH_NOW (R5). -/
def execWashNow (panel : BitVec 3) (target : BitVec 5) (high : BitVec 3) (arg : Byte) (s : State) :
    Host.Outcome State Fault Refusal :=
  requestArrives panel target high 1 arg s

/-- ABANDON_WASH (R12, R18, R97). -/
def execAbandonWash (panel : BitVec 3) (target : BitVec 5) (high : BitVec 3) (arg : Byte) (s : State) :
    Host.Outcome State Fault Refusal :=
  requestArrives panel target high 2 arg s

/-- INHIBIT_SET (R148). -/
def execInhibitSet (panel : BitVec 3) (target : BitVec 5) (high : BitVec 3) (arg : Byte) (s : State) :
    Host.Outcome State Fault Refusal :=
  requestArrives panel target high 3 arg s

/-- INHIBIT_CLEAR (R148). -/
def execInhibitClear (panel : BitVec 3) (target : BitVec 5) (high : BitVec 3) (arg : Byte) (s : State) :
    Host.Outcome State Fault Refusal :=
  requestArrives panel target high 4 arg s

/-- ISOLATE (R25). -/
def execIsolate (panel : BitVec 3) (target : BitVec 5) (high : BitVec 3) (arg : Byte) (s : State) :
    Host.Outcome State Fault Refusal :=
  requestArrives panel target high 5 arg s

/-- RETURN (R26). -/
def execReturnToService (panel : BitVec 3) (target : BitVec 5) (high : BitVec 3) (arg : Byte) (s : State) :
    Host.Outcome State Fault Refusal :=
  requestArrives panel target high 6 arg s

/-- DOSE_RESET (R125). -/
def execDoseReset (panel : BitVec 3) (target : BitVec 5) (high : BitVec 3) (arg : Byte) (s : State) :
    Host.Outcome State Fault Refusal :=
  requestArrives panel target high 7 arg s

/-- READ_COUNTERS (R149). -/
def execReadCounters (panel : BitVec 3) (target : BitVec 5) (high : BitVec 3) (arg : Byte) (s : State) :
    Host.Outcome State Fault Refusal :=
  requestArrives panel target high 8 arg s

/-- CLEAR_COUNTERS (R150). -/
def execClearCounters (panel : BitVec 3) (target : BitVec 5) (high : BitVec 3) (arg : Byte) (s : State) :
    Host.Outcome State Fault Refusal :=
  requestArrives panel target high 9 arg s

/-- READ_WASH_RECORD (R151). -/
def execReadWashRecord (panel : BitVec 3) (target : BitVec 5) (high : BitVec 3) (arg : Byte) (s : State) :
    Host.Outcome State Fault Refusal :=
  requestArrives panel target high 10 arg s

/-- RESTART (R152, R153). -/
def execRestart (panel : BitVec 3) (target : BitVec 5) (high : BitVec 3) (arg : Byte) (s : State) :
    Host.Outcome State Fault Refusal :=
  requestArrives panel target high 11 arg s

/-- CLEAR_RESET_CAUSE (R154). -/
def execClearResetCause (panel : BitVec 3) (target : BitVec 5) (high : BitVec 3) (arg : Byte) (s : State) :
    Host.Outcome State Fault Refusal :=
  requestArrives panel target high 12 arg s

/-- UNKNOWN_REQUEST (R144, step 3). -/
def execUnknownRequest (panel : BitVec 3) (target : BitVec 5) (high : BitVec 3) (code : BitVec 5) (arg : Byte)
    (s : State) : Host.Outcome State Fault Refusal :=
  requestArrives panel target high code.toNat arg s

end Sys2Proof.Machine
end

