-- ==== Sys2Proof/Machine/Pump.lean ====
section
/-! DEFINITION. The commands of the metering pump: STROKE, PULSE_END, FEEDBACK_MISS. -/

namespace Sys2Proof.Machine

/-- A stroke begins (R119, R122 to R124). -/
def strokeBegins (s : State) : State := s.setDose (s.dose.beginStroke s.cfg.strokeWidth)

/-- STROKE (R119). -/
def execStroke (s : State) : Host.Outcome State Fault Refusal :=
  event false (whenDue s.dose.strokeDue strokeBegins) s

/-- The pulse remaining reaches 0 (R122). -/
def pulseEnds (s : State) : State := s.setDose { s.dose with pulse := 0 }

/-- PULSE_END (R122). -/
def execPulseEnd (s : State) : Host.Outcome State Fault Refusal :=
  event false (whenDue (s.dose.pulse = 1) pulseEnds) s

/-- The oldest window closes as a miss (R124). -/
def feedbackMissed (s : State) : State := s.setDose s.dose.miss

/-- FEEDBACK_MISS (R124). -/
def execFeedbackMiss (s : State) : Host.Outcome State Fault Refusal :=
  event false (whenDue s.dose.missDue feedbackMissed) s

end Sys2Proof.Machine
end

