-- ==== Sys2Proof/Machine/Resets.lean ====
section
/-! DEFINITION. The commands of start and stop: POWER_RESET, LINE_RESET, CONFIGURATION_LOAD_SETTLES,
STARTING_END, SUPPLY_FALLS_BELOW_OPERATING_RANGE. -/

namespace Sys2Proof.Machine

/-- POWER_RESET (R159, R160): the supply is in range, every block has its POWER values, the straps are read
and the load begins. -/
def execPowerReset (straps : BitVec 8) (s : State) : Host.Outcome State Fault Refusal :=
  .next (resetStation .power ((setStraps straps s).setSupplyOk true))

/-- LINE_RESET (R159, R160): RESET_N asserted and released. Below the supply's range it is absorbed into the
POWER reset that is held (log 8). -/
def execLineReset (straps : BitVec 8) (s : State) : Host.Outcome State Fault Refusal :=
  .next (if s.supplyOk then resetStation .line (setStraps straps s) else s)

/-- CONFIGURATION_LOAD_SETTLES (R162 to R167, R33). -/
def execConfigurationLoadSettles (ackWrite ackAddress ackRead : Bool) (block : List Byte) (s : State) :
    Host.Outcome State Fault Refusal :=
  event false (settleLoad (ackWrite && ackAddress && ackRead) block) s

/-- STARTING_END (R161, R55, R102, R31). -/
def execStartingEnd (s : State) : Host.Outcome State Fault Refusal := event false endStarting s

/-- SUPPLY_FALLS_BELOW_OPERATING_RANGE (R159): a POWER reset is held; every block already stands at the values
it has when the reset ends (log 8). -/
def execSupplyFallsBelowOperatingRange (s : State) : Host.Outcome State Fault Refusal :=
  .next (resetStation .power (s.setSupplyOk false))

end Sys2Proof.Machine
end

