-- ==== Sys2Proof/Machine/Seconds.lean ====
section
/-! DEFINITION. The second tick (R47) and the four rows that name what can come about at one:
LOADING_HOLD_REACHED, BREAKTHROUGH_HOLD_REACHED, WAIT_MINUTE, READING_PERIOD. Each of the four is a second
tick at which that comes about (log 4). -/

namespace Sys2Proof.Machine

/-- The work of a second tick in its order (95): scanner, cycle controller, share arbiter, dosing unit. The
STATUS offer is that of `finish`. -/
def secondWork (s : State) : State := dosingSecond (tryContest (cycleSecond (scannerSecond s)))

/-- A second tick at which `happens`; a command that tells what does not come about has no effect. -/
def secondAt (happens : Bool) (s : State) : Host.Outcome State Fault Refusal :=
  if happens then event true secondWork s else .next s

/-- The loading hold timer reaches the hold at this second tick (R48, R49). -/
def loadingHoldReaches (s : State) : Bool := !s.loadingPresented && (scannerSecond s).loadingPresented

/-- The breakthrough hold timer reaches the hold at this second tick (R50, R51). -/
def breakthroughHoldReaches (s : State) : Bool :=
  !s.breakthroughPresented && (scannerSecond s).breakthroughPresented

/-- The wait seconds would reach 60 at this second tick (R7). -/
def waitMinuteReaches (s : State) : Bool := s.cycle.state = .waiting && 59 ≤ s.cycle.waitSeconds

/-- The reading period count of a sample holder would reach 5 at this second tick (R111). -/
def readingPeriodReaches (s : State) : Bool :=
  s.sampleHolder && s.cycle.state != .starting && 4 ≤ s.dose.periodCount

/-- SECOND_TICK (R47, R3 to R7, R32, R92, R110, R111, R115). -/
def execSecondTick (s : State) : Host.Outcome State Fault Refusal := event true secondWork s

/-- LOADING_HOLD_REACHED (R49, R3, R4). -/
def execLoadingHoldReached (s : State) : Host.Outcome State Fault Refusal := secondAt (loadingHoldReaches s) s

/-- BREAKTHROUGH_HOLD_REACHED (R51, R3, R4). -/
def execBreakthroughHoldReached (s : State) : Host.Outcome State Fault Refusal :=
  secondAt (breakthroughHoldReaches s) s

/-- WAIT_MINUTE (R7). -/
def execWaitMinute (s : State) : Host.Outcome State Fault Refusal := secondAt (waitMinuteReaches s) s

/-- READING_PERIOD (R111). -/
def execReadingPeriod (s : State) : Host.Outcome State Fault Refusal := secondAt (readingPeriodReaches s) s

end Sys2Proof.Machine
end

