-- ==== Sys2Proof/Machine/Transmission.lean ====
section
/-! DEFINITION. The commands of transmission: TX_ATTEMPT_START, LOSS_OF_THE_MEDIUM, TX_FAILURE, TX_COMPLETION,
OFF_PERIOD_END, CONNECTED_LAPSE. A command about the own frame has no effect where none is in transmission. -/

namespace Sys2Proof.Machine

/-- An attempt of the frame in transmission starts (R134). -/
def Link.startAttempt (l : Link) : Link :=
  match l.inTx, l.attempt with
  | some _, .idle => { l with attempt := .sending }
  | _, _ => l

/-- TX_ATTEMPT_START (R134, R128). -/
def execTxAttemptStart (s : State) : Host.Outcome State Fault Refusal :=
  event false (fun s => s.setLink s.link.startAttempt) s

/-- The attempt loses the medium (R128, R135): the frame stays in transmission, nothing is counted. That a loss is
taken whether or not an attempt was told to have started is the model's choice (log 14). -/
def Link.loseMedium (l : Link) : Link :=
  match l.inTx with
  | some _ => { l with attempt := .lost }
  | none => l

/-- LOSS_OF_THE_MEDIUM (R128, R135). -/
def execLossOfTheMedium (s : State) : Host.Outcome State Fault Refusal :=
  event false (fun s => s.setLink s.link.loseMedium) s

/-- TX_FAILURE (R135, R137, R138). -/
def execTxFailure (s : State) : Host.Outcome State Fault Refusal :=
  event false (whenDue s.link.inTx.isSome failAttempt) s

/-- The frame in transmission completes (R136). -/
def completeTx (s : State) : State :=
  match s.link.inTx with
  | none => s
  | some f => reportCompletion f.kind (s.setLink s.link.complete)

/-- TX_COMPLETION (R136, R93, R153). -/
def execTxCompletion (s : State) : Host.Outcome State Fault Refusal := event false completeTx s

/-- The OFF timer has reached 100 (R139). -/
def Link.offOver (l : Link) : Bool := l.mode = .off && 100 ≤ l.offTimer

/-- OFF_PERIOD_END (R139). -/
def execOffPeriodEnd (s : State) : Host.Outcome State Fault Refusal :=
  event false (whenDue s.link.offOver fun s => s.setLink s.link.endOff) s

/-- The success age reaches 400 (R140). -/
def Link.lapseDue (l : Link) : Bool := l.successAge = 399

/-- CONNECTED_LAPSE (R140). -/
def execConnectedLapse (s : State) : Host.Outcome State Fault Refusal :=
  event false (whenDue s.link.lapseDue fun s => s.setLink { s.link with successAge := 400 }) s

end Sys2Proof.Machine
end

