-- ==== Sys2Proof/Machine/Dispatch.lean ====
section
/-! DEFINITION. What each command does: one arm per constructor, one meaning each. -/

namespace Sys2Proof.Machine

def exec (i : Instr) (s : State) : Host.Outcome State Fault Refusal :=
  match i with
  | .powerReset straps => Sys2Proof.Machine.execPowerReset straps s
  | .lineReset straps => Sys2Proof.Machine.execLineReset straps s
  | .configurationLoadSettles ackWrite ackAddress ackRead block => Sys2Proof.Machine.execConfigurationLoadSettles ackWrite ackAddress ackRead block s
  | .startingEnd => Sys2Proof.Machine.execStartingEnd s
  | .secondTick => Sys2Proof.Machine.execSecondTick s
  | .loadingHoldReached => Sys2Proof.Machine.execLoadingHoldReached s
  | .breakthroughHoldReached => Sys2Proof.Machine.execBreakthroughHoldReached s
  | .waitMinute => Sys2Proof.Machine.execWaitMinute s
  | .readingPeriod => Sys2Proof.Machine.execReadingPeriod s
  | .conversion channel count => Sys2Proof.Machine.execConversion channel count s
  | .clearHoldReached => Sys2Proof.Machine.execClearHoldReached s
  | .drainDownEnd => Sys2Proof.Machine.execDrainDownEnd s
  | .airScourEnd => Sys2Proof.Machine.execAirScourEnd s
  | .backwashEnd => Sys2Proof.Machine.execBackwashEnd s
  | .settleEnd => Sys2Proof.Machine.execSettleEnd s
  | .rinseEnd => Sys2Proof.Machine.execRinseEnd s
  | .limitSwitchChange valve switch level => Sys2Proof.Machine.execLimitSwitchChange valve switch level s
  | .reversalPauseEnd valve => Sys2Proof.Machine.execReversalPauseEnd valve s
  | .travelTimeout valve => Sys2Proof.Machine.execTravelTimeout valve s
  | .manualWashEdge => Sys2Proof.Machine.execManualWashEdge s
  | .inhibitKeyChange level => Sys2Proof.Machine.execInhibitKeyChange level s
  | .tankLowAssert => Sys2Proof.Machine.execTankLowAssert s
  | .doseFbEdge => Sys2Proof.Machine.execDoseFbEdge s
  | .debouncedInputChange input level => Sys2Proof.Machine.execDebouncedInputChange input level s
  | .claimIntentArrival group station data => Sys2Proof.Machine.execClaimIntentArrival group station data s
  | .claimHoldArrival group station data => Sys2Proof.Machine.execClaimHoldArrival group station data s
  | .claimReleaseArrival group station data => Sys2Proof.Machine.execClaimReleaseArrival group station data s
  | .statusArrival group station data => Sys2Proof.Machine.execStatusArrival group station data s
  | .readingArrival group station data => Sys2Proof.Machine.execReadingArrival group station data s
  | .answerArrival frame => Sys2Proof.Machine.execAnswerArrival frame s
  | .rxSignalError => Sys2Proof.Machine.execRxSignalError s
  | .statusLapse station => Sys2Proof.Machine.execStatusLapse station s
  | .intentLapse station => Sys2Proof.Machine.execIntentLapse station s
  | .holdLapse station => Sys2Proof.Machine.execHoldLapse station s
  | .readingStale => Sys2Proof.Machine.execReadingStale s
  | .contestWindowExpiry => Sys2Proof.Machine.execContestWindowExpiry s
  | .backoffEnd => Sys2Proof.Machine.execBackoffEnd s
  | .holdRefresh => Sys2Proof.Machine.execHoldRefresh s
  | .txAttemptStart => Sys2Proof.Machine.execTxAttemptStart s
  | .lossOfTheMedium => Sys2Proof.Machine.execLossOfTheMedium s
  | .txFailure => Sys2Proof.Machine.execTxFailure s
  | .txCompletion => Sys2Proof.Machine.execTxCompletion s
  | .offPeriodEnd => Sys2Proof.Machine.execOffPeriodEnd s
  | .connectedLapse => Sys2Proof.Machine.execConnectedLapse s
  | .stroke => Sys2Proof.Machine.execStroke s
  | .pulseEnd => Sys2Proof.Machine.execPulseEnd s
  | .feedbackMiss => Sys2Proof.Machine.execFeedbackMiss s
  | .washNow panel target high arg => Sys2Proof.Machine.execWashNow panel target high arg s
  | .abandonWash panel target high arg => Sys2Proof.Machine.execAbandonWash panel target high arg s
  | .inhibitSet panel target high arg => Sys2Proof.Machine.execInhibitSet panel target high arg s
  | .inhibitClear panel target high arg => Sys2Proof.Machine.execInhibitClear panel target high arg s
  | .isolate panel target high arg => Sys2Proof.Machine.execIsolate panel target high arg s
  | .returnToService panel target high arg => Sys2Proof.Machine.execReturnToService panel target high arg s
  | .doseReset panel target high arg => Sys2Proof.Machine.execDoseReset panel target high arg s
  | .readCounters panel target high arg => Sys2Proof.Machine.execReadCounters panel target high arg s
  | .clearCounters panel target high arg => Sys2Proof.Machine.execClearCounters panel target high arg s
  | .readWashRecord panel target high arg => Sys2Proof.Machine.execReadWashRecord panel target high arg s
  | .restart panel target high arg => Sys2Proof.Machine.execRestart panel target high arg s
  | .clearResetCause panel target high arg => Sys2Proof.Machine.execClearResetCause panel target high arg s
  | .unknownRequest panel target high code arg => Sys2Proof.Machine.execUnknownRequest panel target high code arg s
  | .supplyFallsBelowOperatingRange => Sys2Proof.Machine.execSupplyFallsBelowOperatingRange s

end Sys2Proof.Machine
end

