-- ==== Sys2Proof/Machine/Tick.lean ====
section
/-! DEFINITION. One tick of the timebase (R159), which is what the station does on an empty queue (log 1): every
running timer counts, every line is sampled, and the events that fall due go into the queue in a free order
(log 5). An event whose timer counts down or up to its own tick's value takes that last count itself. -/

namespace Sys2Proof.Machine

/-! ### What a tick counts -/

/-- Every discrete input is sampled (R155). -/
def Inputs.sample (x : Inputs) : Inputs :=
  { manualWash := x.manualWash.sample, inhibitKey := x.inhibitKey.sample, tankLow := x.tankLow.sample,
    flowOk := x.flowOk.sample, doseFb := x.doseFb.sample }

/-- A channel's tick: its two switches are sampled (R54), its travel timer and pause count (R56, R58). -/
def Valve.tick (c : Valve) : Valve :=
  let c1 := c.countTick
  { c1 with openSwitch := c.openSwitch.sample, closedSwitch := c.closedSwitch.sample }

/-- The step timer of a wash step whose set has settled (R2), with the backwash seconds that follow it in
BACKWASH (R15), and the clear-hold timer (R16). -/
def Cycle.countTick (c : Cycle) : Cycle :=
  if c.state.washStep && c.confirmed.all then
    let t := incTo 120000 c.stepTimer
    { c with
      stepTimer := t,
      backwashSeconds := if c.state = .backwash then t / 100 else c.backwashSeconds,
      clearHold := if c.state = .backwash && c.clearRunning then incTo 2000 c.clearHold else c.clearHold }
  else c

/-- The timers of the share arbiter: the contest window (R93), the back-off (R98), the hold refresh (R99). -/
def Arbiter.countTick (x : Arbiter) (waiting : Bool) : Arbiter :=
  { x with
    windowTimer :=
      match x.claim with
      | .intent _ .windowed => incTo 200 x.windowTimer
      | .intent _ .pending | .none | .hold _ => x.windowTimer,
    backoff := if waiting && 1 < x.backoff then x.backoff - 1 else x.backoff,
    refreshTimer := if x.claim.isHold then incTo 200 x.refreshTimer else x.refreshTimer }

/-- The success age (R140) and the OFF timer (R139). -/
def Link.countTick (l : Link) : Link :=
  { l with
    successAge := if l.successAge < 399 then l.successAge + 1 else l.successAge,
    offTimer := if l.mode = .off then incTo 100 l.offTimer else l.offTimer }

/-- The conversion of a channel is due at this tick, or not (R33, log 6). -/
def ChannelRecord.markDue (r : ChannelRecord) (count : Nat) : ChannelRecord := { r with due := r.phase = count }

def Channels.markDue (x : Channels) (count : Nat) : Channels :=
  { dp := x.dp.markDue count, flow := x.flow.markDue count, outletTurbidity := x.outletTurbidity.markDue count,
    wasteTurbidity := x.wasteTurbidity.markDue count, chlorine := x.chlorine.markDue count,
    ph := x.ph.markDue count }

/-- The scan count modulo 10 with the conversions due at it (R33) and, at a tick that is no second tick, the capture
delay count (R45), which a second tick advances itself (R47). That any other tick advances it before its own events,
the clean-bed signal and a change of cycle state among them, is the model's choice (log 27). -/
def Scanner.countTick (x : Scanner) (second filtering : Bool) : Scanner :=
  let n := (x.scanCount + 1) % 10
  let x1 := { x with scanCount := n, channels := x.channels.markDue n }
  if second then x1 else x1.countCapture filtering

/-- The pacer's count of a tick; at a second tick it comes before or after the recompute (R120, log 26). -/
def Dosing.pacerTick (d : Dosing) (late : Bool) : Dosing :=
  if late && d.pacing then { d with countOwed := true } else d.countPacer

/-- This tick is a second tick (R159). -/
def State.secondNow (s : State) : Bool := 99 ≤ s.phase

/-- Every running timer counts one tick, before the events of the tick are taken; for the capture delay count that
order is the model's choice (log 27). -/
def countAll (s : State) : State :=
  let second := s.secondNow
  { s with
    phase := (s.phase + 1) % 100,
    inputs := s.inputs.sample,
    scan := s.scan.countTick second s.cycle.state.filtering,
    cycle := s.cycle.countTick,
    valves := s.valves.map fun _ c => c.tick,
    peers := { s.peers with entries := s.peers.entries.map PeerEntry.countTick },
    arb := s.arb.countTick (s.cycle.state = .waiting),
    dose := (s.dose.countTick s.sampleHolder).pacerTick (second && Config.pacerLate s.serial),
    link := s.link.countTick }

/-! ### What falls due at a tick -/

/-- The command, where it is due. -/
def dueIf (b : Bool) (c : Instr) : List Instr := if b then [c] else []

/-- The command that tells a change of a discrete input. -/
def inputCommand : DiscreteInput → Bool → Instr
  | .inhibitKey, level => .inhibitKeyChange level
  | .manualWash, true => .manualWashEdge
  | .tankLow, true => .tankLowAssert
  | .doseFb, true => .doseFbEdge
  | i, level => .debouncedInputChange i level

/-- The changes of the discrete inputs at this tick (R155). -/
def dueInputs (x : Inputs) : List Instr :=
  [DiscreteInput.manualWash, .inhibitKey, .tankLow, .flowOk, .doseFb].flatMap fun i =>
    dueIf (x.get i).changesNow (inputCommand i (x.get i).raw)

/-- The switch changes (R54) and the ends of reversal pauses (R58) of a channel at this tick. -/
def dueValve (v : ValveId) (c : Valve) : List Instr :=
  dueIf c.openSwitch.changesNow (.limitSwitchChange v .opened c.openSwitch.raw)
  ++ dueIf c.closedSwitch.changesNow (.limitSwitchChange v .closed c.closedSwitch.raw)
  ++ dueIf c.pauseEnds (.reversalPauseEnd v)

/-- The conversions at this tick, of the counts at the pins (R33). -/
def dueConversions (t : State) : List Instr :=
  ChannelId.all.flatMap fun ch =>
    dueIf (t.scan.channels.get ch).due (.conversion ch (t.pins.analog ch))

/-- The ends of the wash steps (R13 to R17). -/
def dueSteps (s t : State) : List Instr :=
  dueIf (stepDone .drainDown t.cfg.drainDownTime t) .drainDownEnd
  ++ dueIf (stepDone .airScour t.cfg.airScourTime t) .airScourEnd
  ++ dueIf (s.cycle.clearHold < 2000 && t.cycle.clearHold = 2000) .clearHoldReached
  ++ dueIf (backwashClear t || stepDone .backwash t.cfg.backwashMax t) .backwashEnd
  ++ dueIf (stepDone .settle t.cfg.settleTime t) .settleEnd
  ++ dueIf (stepDone .rinse t.cfg.rinseTime t) .rinseEnd

/-- The lapses of an entry (R73, R77, R78). -/
def dueLapses (lapse : Nat) (e : PeerEntry) : List Instr :=
  dueIf e.statusDue (.statusLapse (BitVec.ofNat 5 e.station))
  ++ dueIf e.intentDue (.intentLapse (BitVec.ofNat 5 e.station))
  ++ dueIf (e.holdDue lapse) (.holdLapse (BitVec.ofNat 5 e.station))

/-- The contest window has run (R95). -/
def windowDue (t : State) : Bool :=
  match t.arb.claim with
  | .intent _ .windowed => t.cfg.contestWindow ≤ t.arb.windowTimer
  | .intent _ .pending | .none | .hold _ => false

/-- All that falls due at a tick, `s` being the state before its counts and `t` the state after them. -/
def dueAll (s t : State) : List Instr :=
  dueIf (startingOver t) .startingEnd
  ++ dueIf s.secondNow .secondTick
  ++ dueInputs s.inputs
  ++ ValveId.all.flatMap (fun v => dueValve v (s.valves.get v))
  ++ ValveId.all.flatMap (fun v => dueIf ((t.valves.get v).timedOut t.cfg.travelTimeout) (.travelTimeout v))
  ++ dueConversions t
  ++ dueSteps s t
  ++ t.peers.entries.flatMap (dueLapses t.cfg.claimLapse)
  ++ dueIf (windowDue t) .contestWindowExpiry
  ++ dueIf (backoffDue s) .backoffEnd
  ++ dueIf (t.arb.claim.isHold && 200 ≤ t.arb.refreshTimer) .holdRefresh
  ++ dueIf (readingDue s) .readingStale
  ++ dueIf t.dose.strokeDue .stroke
  ++ dueIf (s.dose.pulse = 1) .pulseEnd
  ++ dueIf s.dose.missDue .feedbackMiss
  ++ dueIf t.link.offOver .offPeriodEnd
  ++ dueIf s.link.lapseDue .connectedLapse

/-- A command put at a place of a list. -/
def insertAt (c : Instr) : Nat → List Instr → List Instr
  | 0, rest => c :: rest
  | _ + 1, [] => [c]
  | n + 1, x :: rest => x :: insertAt c n rest

/-- The events of one tick in a free order (log 5): each goes to a place among those after it that nothing
constrains. -/
def arrange (serial : Nat) : List Instr → List Instr
  | [] => []
  | c :: rest =>
    match arrange serial rest with
    | [] => [c]
    | x :: others =>
      insertAt c (Config.tickOrder serial (others.length + 1) % (others.length + 2)) (x :: others)

/-- The timebase runs: the supply is in range (R159) and the load has settled, which it does before the first
tick (R161, R162; log 1). -/
def ticking (s : State) : Bool := s.supplyOk && s.scanning

/-- One tick (R159). -/
def tick (s : State) : State :=
  if ticking s then
    let t := countAll s
    { t with serial := s.serial + 1, pending := arrange s.serial (dueAll s t) }
  else s

end Sys2Proof.Machine
end

