-- ==== Sys2Proof/Safety.lean ====
section
/-! DEFINITION. The laws of the station: what holds in every state that a run can reach. Each is a Bool on the
state; the statements say that the state after reset has it and that every step keeps it. Then the shapes in
which the statements say what a command does. -/

namespace Sys2Proof.Machine

/-! ### The peer table (R69, R70, R79) -/

/-- A claim's flow is 1-255 and its urgency 0-255 where it has them (R69, R70). -/
def PeerClaim.wf : PeerClaim → Bool
  | .none => true
  | .intent u f | .hold u f => u ≤ 255 && 1 ≤ f && f ≤ 255

/-- An entry of a table of the station with the given number: in its ranges (R69), not the own number (R70),
and not one that R79 removes. -/
def PeerEntry.wf (own : Nat) (e : PeerEntry) : Bool :=
  e.station < 32 && e.station != own && e.group < 8 && e.claim.wf && e.claimAge ≤ 60000 && !e.empty
    && match e.status with
       | none => true
       | some st => st.code != .starting && st.age ≤ 400

/-- Entries stand by rising station number, so there is at most one a number (R69). -/
def rising : List PeerEntry → Bool
  | [] => true
  | [_] => true
  | a :: b :: rest => a.station < b.station && rising (b :: rest)

/-- The peer table law (R69, R70, R79). -/
def peerLaw (s : State) : Bool :=
  s.load.station < 32 && rising s.peers.entries && s.peers.entries.all (PeerEntry.wf s.load.station)

/-! ### The bus link (R127, R133, R134, R137) -/

/-- The link law: nothing is held while OFF, at most four ANSWERs wait, nothing waits while nothing is in
transmission, the mode is that of the tally, and an attempt is that of a frame in transmission. -/
def linkLaw (s : State) : Bool :=
  s.link.tally ≤ 255 && s.link.answers.length ≤ 4 && s.link.successAge ≤ 400 && s.link.offTimer ≤ 100
    && (s.link.inTx.isSome || (s.link.nothingWaiting && s.link.attempt = .idle))
    && (s.link.mode != .off || s.link.inTx.isNone)
    && (s.link.mode = .off || s.link.mode = judgedMode s.link.tally)

/-! ### The drain (R86, R101) -/

/-- The set that a state with a valve set has commanded (R2). -/
def commandedSet : CycleState → Option ValveSet
  | .recovering | .returning => some serviceSet
  | .isolating => some allClosedSet
  | .drainDown => some (stepSet .drainDown)
  | .airScour => some (stepSet .airScour)
  | .backwash => some (stepSet .backwash)
  | .settle => some (stepSet .settle)
  | .rinse => some (stepSet .rinse)
  | .starting | .inService | .waiting | .contest | .isolated | .lockedOut => none

/-- A channel under a command: where it has confirmed it is settled at the commanded position, and where it
travels it travels toward it (R2, R57). -/
def obeys (set : ValveSet) (confirmed : ValveFlags) (x : Valves) (v : ValveId) : Bool :=
  (!confirmed.get v || (x.get v).state = settledAt (set v))
    && ((x.get v).state.destination = none || (x.get v).state.destination = some (set v))

/-- The channels obey the set of the cycle state; in STARTING all are provisionally STOPPED (R53). -/
def setObeyed (s : State) : Bool :=
  match commandedSet s.cycle.state with
  | some set => ValveId.all.all (obeys set s.cycle.confirmed s.valves)
  | none => s.cycle.state != .starting || ValveId.all.all fun v => (s.valves.get v).state = .stopped

/-- The drain law: the claim is INTENT exactly in CONTEST (R86), HOLD in every wash step and in RETURNING (R86),
NONE in STARTING (R85), and HOLD outside STARTING whenever a waste valve is not CLOSED (R101). -/
def drainLaw (s : State) : Bool :=
  (s.arb.claim.isIntent == decide (s.cycle.state = .contest))
    && (!(s.cycle.state.washStep || s.cycle.state = .returning) || s.arb.claim.isHold)
    && (s.cycle.state != .starting || s.arb.claim = .none)
    && (s.cycle.state = .starting || s.valves.wasteClosed || s.arb.claim.isHold)
    && setObeyed s

/-! ### The cycle controller (R1, R3, R29, R30) -/

/-- A due reason is latched from WAITING until a wash ends (R3), so that every wash record has one (R29). -/
def wantsWash : CycleState → Bool
  | .waiting | .contest | .drainDown | .airScour | .backwash | .settle | .rinse | .returning => true
  | _ => false

/-- BACKWASH has ended and its outcome, or that of a cut short, is set until the wash is recorded (R15, R18). -/
def hasOutcome : CycleState → Bool
  | .settle | .rinse | .returning => true
  | _ => false

/-- The cycle law: the ranges of R1 and R29, the due reason latched while a wash is wanted, the outcome, and the
bounds of the backwash time in their order (R165). -/
def cycleLaw (s : State) : Bool :=
  s.cycle.waitMinutes ≤ 63 && s.cycle.waitSeconds ≤ 59 && s.cycle.stepTimer ≤ 120000
    && s.cycle.clearHold ≤ 2000 && s.cycle.backwashSeconds ≤ 1200 && s.cycle.runSeconds ≤ 4294967295
    && s.cycle.records.length ≤ 4
    && s.cycle.records.all (fun r => r.due != .none && r.backwashSeconds ≤ 1200)
    && (!wantsWash s.cycle.state || s.cycle.due != .none)
    && (s.cycle.state.washStep || s.cycle.stepTimer = 0)
    && (s.cycle.state = .backwash || s.cycle.clearHold = 0)
    && (!hasOutcome s.cycle.state || s.cycle.outcome.isSome) && s.cfg.backwashMin ≤ s.cfg.backwashMax

/-! ### The valve channels (R53, 03 section 4.3) -/

/-- A channel's record agrees with its state (03, section 4.3): settled on its own switch alone, a target while
travelling, none in FAULT and STOPPED, the timers 0 but while travelling. -/
def Valve.wf (c : Valve) : Bool :=
  c.travel ≤ 12000 && c.pause ≤ 20 &&
    match c.state with
    | .closed => c.atLimit .closed && c.target != some .opened && c.travel = 0 && c.pause = 0
    | .opened => c.atLimit .opened && c.target != some .closed && c.travel = 0 && c.pause = 0
    | .opening => c.target = some .opened
    | .closing => c.target = some .closed
    | .fault _ | .stopped => c.target = none && c.travel = 0 && c.pause = 0

/-- The valve law: every channel's record agrees with its state; in STARTING every channel is STOPPED, and
outside it one with both switches asserted is in FAULT (R53, R62). -/
def valveLaw (s : State) : Bool :=
  ValveId.all.all fun v =>
    (s.valves.get v).wf &&
      if s.cycle.state = .starting then (s.valves.get v).state = .stopped
      else !(s.valves.get v).bothAsserted || (s.valves.get v).state.isFault

/-! ### The dosing unit (R109, R115, R116, R121) -/

/-- The dosing law: d, I and the elapsed count are 0 and absent in HELD and FAULT (R115, R121), FAULT is the mode
of a set latch (R124, R125), BASE and TRIMMED belong to the filtering states (R116), and the ranges of R109 and
of the min stroke interval (R164). -/
def dosingLaw (s : State) : Bool :=
  (match s.dose.mode with
    | .held | .fault => s.dose.dose = 0 && s.dose.interval = none
    | .base | .trimmed => s.cycle.state.filtering && s.dose.dose ≤ s.cfg.maxDose)
  && (match s.dose.interval with
    | none => s.dose.dose = 0 && s.dose.elapsed = 0 && !s.dose.countOwed
    | some i => s.cfg.minStrokeInterval ≤ i && 0 < s.dose.dose)
  && (s.dose.faultLatch == decide (s.dose.mode = .fault))
  && s.dose.elapsed ≤ 65535 && s.dose.missCount ≤ 3 && s.dose.strokeCount ≤ 65535
  && s.dose.readingAge ≤ 2000 && s.dose.windows.all (fun age => age ≤ 49)
  && 30 ≤ s.cfg.minStrokeInterval && s.cfg.minStrokeInterval ≤ 300 && (s.load.outcome.isSome || s.cycle.state = .starting)

/-! ### The scanner (R35, R42, R44, R48, R50) -/

/-- A channel record in its ranges (R35). -/
def ChannelRecord.wf (r : ChannelRecord) (span : Nat) : Bool :=
  r.value ≤ span &&
    match r.condition with
    | .unseen | .normal | .faulted => r.run = 0
    | .doubtful | .clearing => 1 ≤ r.run && r.run ≤ 2

/-- A conversion is due at the channel's own tick of ten alone, and none before scanning begins (R33). -/
def ChannelRecord.onItsTick (r : ChannelRecord) (scanning : Bool) (count : Nat) : Bool :=
  r.phase < 10 && (!r.due || (scanning && r.phase = count))

/-- The scanner law: the records in their ranges, conversions at their own ticks, at most 8 loading values of at
most 1000, D0 at most Dlim - 50, and the hold timers at most their holds, 0 outside scanning. -/
def scanLaw (s : State) : Bool :=
  ChannelId.all.all (fun c => (s.scan.channels.get c).wf (if s.scanning then spanOf s.cfg c else 0))
    && ChannelId.all.all (fun c => (s.scan.channels.get c).onItsTick s.scanning s.scan.scanCount)
    && s.scan.scanCount < 10 && s.scan.ring.length ≤ 8 && s.scan.ring.all (fun l => l ≤ 1000)
    && s.scan.d0 + 50 ≤ s.cfg.dlim
    && s.scan.loadingTimer ≤ (if s.scanning then s.cfg.loadingHold else 0)
    && s.scan.breakthroughTimer ≤ (if s.scanning then s.cfg.breakthroughHold else 0)
    && s.scan.captureDelay ≤ 6000
    && (s.scanning || s.cycle.state = .starting)

/-! ### The saturating counters (00, section 1.6) -/

/-- The counter law: every saturating counter is 0-255. -/
def counterLaw (s : State) : Bool :=
  s.link.formatErrors ≤ 255 && s.link.signalErrors ≤ 255 && s.link.txFailures ≤ 255 && s.link.linkOffs ≤ 255
    && s.peers.claimLapses ≤ 255 && s.peers.statusLapses ≤ 255 && s.arb.contestsLost ≤ 255
    && s.arb.overlaps ≤ 255 && s.req.dropped ≤ 255 && s.dose.duplicateReadings ≤ 255

/-! ### Shapes of the statements -/

/-- Command `c` at state `s` answers a next state, and `P` holds of it. -/
def completes (c : Instr) (s : State) (P : State → Prop) : Prop := ∃ t, exec c s = .next t ∧ P t

/-- No channel has both its switches asserted, so none faults at a command (R57, case 2). -/
def noBothAsserted (s : State) : Bool := ValveId.all.all fun v => !(s.valves.get v).bothAsserted

/-- Every channel stands at its limit in the set, so that the set is settled at its command (R2, R57). -/
def standsAt (set : ValveSet) (s : State) : Bool := ValveId.all.all fun v => (s.valves.get v).atLimit (set v)

/-- A wash step is entered from `s` (R2, R13 to R17): its set is commanded, the step and clear-hold timers are 0,
and a STATUS is offered (R32). -/
def stepEntered (step : CycleState) (s t : State) : Prop :=
  t = { s with
        cycle := { s.cycle with
                   state := step, stepTimer := 0, clearHold := 0, clearRunning := false,
                   confirmed := s.valves.confirmations (stepSet step) }
        valves := s.valves.command (stepSet step)
        link := (s.link.offer (statusFrame t)).take }

/-- RETURNING is entered from `s` (R21) after the offers that gave link `l`. -/
def returningEntered (l : Link) (s t : State) : Prop :=
  t = { s with
        cycle := { s.cycle with
                   state := .returning, stepTimer := 0, clearHold := 0, clearRunning := false,
                   confirmed := s.valves.confirmations serviceSet }
        valves := s.valves.command serviceSet
        link := (l.offer (statusFrame t)).take }

/-- `s` with the outcome of a wash step cut short, and in BACKWASH the backwash seconds reached (R18). -/
def cutShortAs (outcome : WashOutcome) (s : State) : State :=
  { s with
    cycle := { s.cycle with
               outcome := some outcome
               backwashSeconds :=
                 if s.cycle.state = .backwash then s.cycle.stepTimer / 100 else s.cycle.backwashSeconds } }

/-- The cycle in a state it has entered (R1): the step and clear-hold timers are 0. -/
def cycleIn (state : CycleState) (c : Cycle) : Cycle :=
  { c with state := state, stepTimer := 0, clearHold := 0, clearRunning := false }

/-- `s` with a set commanded: each channel as its command leaves it, and those that stand there confirmed (R2). -/
def commandedTo (set : ValveSet) (s : State) : State :=
  { s with cycle := { s.cycle with confirmed := s.valves.confirmations set }, valves := s.valves.command set }

/-- `s` with channel `v` settled at a position by an event of its own, and confirmed (R58, R60). -/
def settledBy (v : ValveId) (p : Position) (c : Valve) (s : State) : State :=
  { s with
    cycle := { s.cycle with confirmed := s.cycle.confirmed.mark v }
    valves := s.valves.set v { c with state := settledAt p, travel := 0, pause := 0 } }

/-- RELEASE(FINISHED) has been offered (R103, R104). -/
def releasedLink (s : State) (l : Link) : Link := l.offer (claimFrame s none [3, 0, 0, 0])

/-- The wash of `m` is completed with an outcome at the settlement of the SERVICE set (R22, R29, R30, R103), after
the offers that gave link `l`. -/
def washCompleted (o : WashOutcome) (l : Link) (m t : State) : Prop :=
  let again := o = .yielded ∨ o = .cutShortTank ∨ o = .cutShortLink
  t = { m with
        cycle :=
          { cycleIn (if again then .waiting else .inService) m.cycle with
            due := if again then m.cycle.due else .none
            waitMinutes := if again then m.cycle.waitMinutes else 0
            waitSeconds := if again then m.cycle.waitSeconds else 0
            outcome := none, backwashSeconds := 0
            runSeconds := if m.cfg.backwashMin ≤ m.cycle.backwashSeconds then 0 else m.cycle.runSeconds
            records :=
              ({ due := m.cycle.due, outcome := o, backwashSeconds := m.cycle.backwashSeconds,
                 volume := m.cfg.washFlow * m.cycle.backwashSeconds / 360 } :: m.cycle.records).take 4 }
        arb :=
          { m.arb with
            claim := .none, refreshTimer := 0, backoff := if again then 200 + 10 * m.load.station else m.arb.backoff }
        scan :=
          if o = .complete ∨ o = .completeUnclear then { m.scan with captureArmed := true, captureDelay := 0 }
          else m.scan
        link := (l.offer (statusFrame t)).take }

/-- The wash of `s`, cut short while every channel stands at its SERVICE switch, is completed at that event (R2, R18,
R21, R22), after the offers that gave link `l`. -/
def cutShortAtOnce (o : WashOutcome) (l : Link) (s t : State) : Prop :=
  washCompleted o l (commandedTo serviceSet (cutShortAs o s)) t

/-- The SERVICE set of RECOVERING settles in `m` (R24, R104): WAITING or IN_SERVICE, and a HOLD released. -/
def recoveryOver (m t : State) : Prop :=
  let held := m.arb.claim.isHold = true
  t = { m with
        cycle := cycleIn (if m.cycle.due = .none then .inService else .waiting) m.cycle
        arb := if held then { m.arb with claim := .none, refreshTimer := 0 } else m.arb
        link := ((if held then releasedLink m m.link else m.link).offer (statusFrame t)).take }

/-- The ISOLATED set of ISOLATING settles in `m` (R25). -/
def isolationReached (m t : State) : Prop :=
  t = { m with cycle := cycleIn .isolated m.cycle, link := (m.link.offer (statusFrame t)).take }

/-- `m` in CONTEST with an INTENT at the urgency formed there (R8, R92), after the offers that gave link `l`. -/
def contestEntered (l : Link) (m t : State) : Prop :=
  t = { m with
        cycle := cycleIn .contest m.cycle
        arb := { m.arb with
                 claim := .intent (formedUrgency m) .pending, windowTimer := 0,
                 intentNumber := m.arb.intentNumber + 1, backoff := 0 }
        link :=
          ((l.offer (claimFrame m (some (m.arb.intentNumber + 1))
            [1, byte (formedUrgency m), byte m.cfg.washFlow, 0])).offer (statusFrame t)).take }

/-- Every CLOSED channel stands at its closed switch alone (03, section 4.3). -/
def closedStand (s : State) : Bool :=
  ValveId.all.all fun v => (s.valves.get v).state != .closed || (s.valves.get v).atLimit .closed

/-- The dosing unit once the cycle has left the filtering states (R116, R121). -/
def doseHeld (d : Dosing) : Dosing :=
  { d with
    mode := if d.mode = .fault then .fault else .held
    dose := 0, interval := none, elapsed := 0, countOwed := false }

/-- A forced hold (R101): HOLD at urgency 255. -/
def heldByForce (a : Arbiter) : Arbiter := { a with claim := .hold 255, windowTimer := 0, refreshTimer := 0 }

/-- A CLAIM HOLD of a forced hold has been offered (R101). -/
def forcedLink (s : State) (l : Link) : Link := l.offer (claimFrame s none [2, 255, byte s.cfg.washFlow, 0])

/-- RELEASE(WITHDRAWN) has been offered (R94, R97). -/
def withdrawnLink (s : State) (l : Link) : Link := l.offer (claimFrame s none [3, 0, 0, 1])

/-! ### What falls due at a tick -/

/-- A line's raw level differs from its debounced level at a fifth tick running (R54, R155). -/
def fifthSample (l : DebouncedLine) (level : Bool) : Prop := l.raw = level ∧ l.level ≠ level ∧ 4 ≤ l.run

/-- The set of a wash step has settled and its step timer stands at the step's time (R2, R13 to R17). -/
def stepTimeReached (step : CycleState) (seconds : Nat) (t : State) : Prop :=
  t.cycle.state = step ∧ t.settled = true ∧ seconds * 100 ≤ t.cycle.stepTimer

/-- A command that a tick brings about, `s` being the state before the tick's counts and `t` the one after them:
each by the rule of its row. -/
def fallsDue (s t : State) : Instr → Prop
  | .startingEnd => t.cycle.state = .starting ∧ t.load.outcome.isSome = true ∧ 6 ≤ t.phase
  | .secondTick => 99 ≤ s.phase
  | .conversion ch count =>
    (s.scan.channels.get ch).phase = (s.scan.scanCount + 1) % 10 ∧ count = s.pins.analog ch
  | .clearHoldReached => s.cycle.clearHold < 2000 ∧ t.cycle.clearHold = 2000
  | .drainDownEnd => stepTimeReached .drainDown s.cfg.drainDownTime t
  | .airScourEnd => stepTimeReached .airScour s.cfg.airScourTime t
  | .backwashEnd =>
    (stepTimeReached .backwash s.cfg.backwashMin t ∧ 2000 ≤ t.cycle.clearHold)
      ∨ stepTimeReached .backwash s.cfg.backwashMax t
  | .settleEnd => stepTimeReached .settle s.cfg.settleTime t
  | .rinseEnd => stepTimeReached .rinse s.cfg.rinseTime t
  | .limitSwitchChange v p level => fifthSample ((s.valves.get v).switch p) level
  | .reversalPauseEnd v => (s.valves.get v).state.travelling = true ∧ (s.valves.get v).pause = 1
  | .travelTimeout v => (t.valves.get v).driven = true ∧ s.cfg.travelTimeout * 100 ≤ (t.valves.get v).travel
  | .manualWashEdge => fifthSample s.inputs.manualWash true
  | .inhibitKeyChange level => fifthSample s.inputs.inhibitKey level
  | .tankLowAssert => fifthSample s.inputs.tankLow true
  | .doseFbEdge => fifthSample s.inputs.doseFb true
  | .debouncedInputChange i level => otherInputChange i level = true ∧ fifthSample (s.inputs.get i) level
  | .statusLapse p => ∃ e ∈ t.peers.entries, BitVec.ofNat 5 e.station = p ∧ ∃ st, e.status = some st ∧ 400 ≤ st.age
  | .intentLapse p =>
    ∃ e ∈ t.peers.entries, BitVec.ofNat 5 e.station = p ∧ e.claim.isIntent = true ∧ 300 ≤ e.claimAge
  | .holdLapse p =>
    ∃ e ∈ t.peers.entries, BitVec.ofNat 5 e.station = p ∧ e.claim.isHold = true ∧ s.cfg.claimLapse * 100 ≤ e.claimAge
  | .readingStale => s.sampleHolder = false ∧ s.dose.readingAge = 1999
  | .contestWindowExpiry => (∃ u, s.arb.claim = .intent u .windowed) ∧ s.cfg.contestWindow ≤ t.arb.windowTimer
  | .backoffEnd => s.cycle.state = .waiting ∧ s.arb.backoff = 1
  | .holdRefresh => s.arb.claim.isHold = true ∧ 200 ≤ t.arb.refreshTimer
  | .offPeriodEnd => s.link.mode = .off ∧ 100 ≤ t.link.offTimer
  | .connectedLapse => s.link.successAge = 399
  | .stroke =>
    (t.dose.mode = .base ∨ t.dose.mode = .trimmed) ∧ ∃ i, t.dose.interval = some i ∧ i ≤ t.dose.elapsed
  | .pulseEnd => s.dose.pulse = 1
  | .feedbackMiss => ∃ age younger, s.dose.windows = age :: younger ∧ 49 ≤ age
  | _ => False

/-- `s` back in WAITING from CONTEST with its contest over and the back-off set (R94, R96, R98). -/
def contestOver (lost : Nat) (l : Link) (s t : State) : Prop :=
  t = { s with
        cycle := { s.cycle with state := .waiting, stepTimer := 0, clearHold := 0, clearRunning := false }
        arb := { s.arb with
                 claim := .none, windowTimer := 0, backoff := 200 + 10 * s.load.station,
                 contestsLost := lost }
        link := (l.offer (statusFrame t)).take }

/-- The station after a LINE or REQUEST reset (09, section 10.7): what is kept, and every other item at its
reset value; the straps are read again (R160) and the outside's levels stand. -/
def restartedAs (cause : ResetCause) (straps : BitVec 8) (s : State) : State :=
  { State.reset with
    pins := { s.pins with straps := straps }
    inputs :=
      { manualWash := .fresh s.inputs.manualWash.raw, inhibitKey := .fresh s.inputs.inhibitKey.raw,
        tankLow := .fresh s.inputs.tankLow.raw, flowOk := .fresh s.inputs.flowOk.raw,
        doseFb := .fresh s.inputs.doseFb.raw }
    cycle := { State.reset.cycle with runSeconds := s.cycle.runSeconds, records := s.cycle.records }
    valves := s.valves.map fun _ c => .fresh c.openSwitch.raw c.closedSwitch.raw
    peers := { State.reset.peers with statusLapses := s.peers.statusLapses, claimLapses := s.peers.claimLapses }
    arb := { State.reset.arb with contestsLost := s.arb.contestsLost, overlaps := s.arb.overlaps }
    dose :=
      { State.reset.dose with
        strokeCount := s.dose.strokeCount, duplicateReadings := s.dose.duplicateReadings }
    link :=
      { State.reset.link with
        formatErrors := s.link.formatErrors, signalErrors := s.link.signalErrors,
        txFailures := s.link.txFailures, linkOffs := s.link.linkOffs, firstError := s.link.firstError }
    req :=
      { inhibitFlag := false, resetCause := cause, pendingRestart := false, dropped := s.req.dropped }
    load := { State.reset.load with station := straps.toNat % 32, group := straps.toNat / 32 }
    serial := s.serial
    pending := s.pending }

/-- The station after a POWER reset (R159): as a LINE reset leaves it, with every kept item at its reset value. -/
def poweredUp (straps : BitVec 8) (s : State) : State :=
  { restartedAs .power straps s with
    cycle := State.reset.cycle, peers := State.reset.peers, arb := State.reset.arb, dose := State.reset.dose,
    link := State.reset.link, req := State.reset.req }

/-- A stored field as its range takes it (R164): kept within it, raised to its lower or lowered to its upper bound
outside. -/
def takenInto (lo hi stored taken : Nat) : Prop :=
  (lo ≤ stored ∧ stored ≤ hi → taken = stored) ∧ (stored < lo → taken = lo) ∧ (hi < stored → taken = hi)

/-- A row of a panel's request as a frame: panel, target, code and argument. -/
structure RequestRow where
  panel  : Nat
  target : Nat
  code   : Nat
  arg    : Nat
  deriving DecidableEq, Repr

/-- The request that a command is (R144, 08 section 9.3). -/
def requestRow : Instr → Option RequestRow
  | .washNow p t _ a => some ⟨p.toNat, t.toNat, 1, a.toNat⟩
  | .abandonWash p t _ a => some ⟨p.toNat, t.toNat, 2, a.toNat⟩
  | .inhibitSet p t _ a => some ⟨p.toNat, t.toNat, 3, a.toNat⟩
  | .inhibitClear p t _ a => some ⟨p.toNat, t.toNat, 4, a.toNat⟩
  | .isolate p t _ a => some ⟨p.toNat, t.toNat, 5, a.toNat⟩
  | .returnToService p t _ a => some ⟨p.toNat, t.toNat, 6, a.toNat⟩
  | .doseReset p t _ a => some ⟨p.toNat, t.toNat, 7, a.toNat⟩
  | .readCounters p t _ a => some ⟨p.toNat, t.toNat, 8, a.toNat⟩
  | .clearCounters p t _ a => some ⟨p.toNat, t.toNat, 9, a.toNat⟩
  | .readWashRecord p t _ a => some ⟨p.toNat, t.toNat, 10, a.toNat⟩
  | .restart p t _ a => some ⟨p.toNat, t.toNat, 11, a.toNat⟩
  | .clearResetCause p t _ a => some ⟨p.toNat, t.toNat, 12, a.toNat⟩
  | .unknownRequest p t _ c a => some ⟨p.toNat, t.toNat, c.toNat, a.toNat⟩
  | _ => none

/-- The link once an ANSWER with zero data has been offered at a request's arrival (R145, R134). -/
def answered (r : RequestRow) (o : AnswerOutcome) (s : State) : Link :=
  s.link.afterArrival.offer (answerFrame r.panel r.code o zeroData false s)

/-- A request reaches the judgement of R144: it is addressed to this station, the station is not in STARTING and
fewer than four ANSWERs wait. -/
def reachesJudgement (r : RequestRow) (s : State) : Bool :=
  s.supplyOk && r.target = s.load.station && s.cycle.state != .starting && s.link.answers.length < 4

end Sys2Proof.Machine
end

