-- ==== Sys2Proof/Certificates/Slice0/Obligations.lean ====
section
/-! DEFINITION. The statements for the provers: what each command does, for every state and operands that meet
conditions on these alone, with its frame; and the laws that every step keeps. -/

open Sys2Proof Sys2Proof.Machine

/-! ### The queue and the step -/

/-- The command at the front of the queue is taken, with the queue's rest. An event is taken whole (95); that all
senders share one queue, first in, first out, is the model's choice (log 25). -/
def Obligations.StepTakesTheFrontCommand : Prop :=
  ∀ (c : Instr) (rest : List Instr) (s : State), step (s.setPending (c :: rest)) = exec c (s.setPending rest)

/-- The model's choice (log 1): on an empty queue the block takes one tick, and idles while a reset is held or the
load is under way. What a tick queues is what falls due at it by the rules of the rows (`fallsDue`), in an order that
is free (log 5). Two readings of the model's are in it: an event falls due where the state's own timer stands at its
end (log 2), and of the rows that name what comes about at a second tick, LOADING_HOLD_REACHED,
BREAKTHROUGH_HOLD_REACHED, WAIT_MINUTE and READING_PERIOD, the tick queues none, but SECOND_TICK alone (log 4). -/
def Obligations.EmptyQueueStepIsOneTick : Prop :=
  ∀ s : State, s.pending = [] →
    (ticking s = false → step s = .next s)
    ∧ (ticking s = true →
        ∃ t, step s = .next t ∧ t.pending.Perm (dueAll s (countAll s))
          ∧ t = { countAll s with serial := s.serial + 1, pending := t.pending }
          ∧ ∀ c, c ∈ t.pending ↔ fallsDue s t c)

/-- A tick counts every running timer and changes nothing that only an event changes. That the last count of a
debounce run, a reversal pause, a back-off, a pulse, a feedback window, the reading age and the success age is the
event's own is the model's choice (log 2), and so are the mark of a due conversion (log 6), the place of the pacer's
count at a second tick (log 26), that of the capture delay count before the events of a tick (log 27) and the tick at a
step (log 1). -/
def Obligations.TickCountsTheRunningTimers : Prop :=
  ∀ s : State, s.pending = [] → ticking s = true →
    let sampled := fun (l : DebouncedLine) => { l with run := if l.raw = l.level then 0 else incTo 4 l.run }
    let count := (s.scan.scanCount + 1) % 10
    let counted := if s.dose.pacing then incTo 65535 s.dose.elapsed else s.dose.elapsed
    ∃ t, step s = .next t
      ∧ t.phase = (s.phase + 1) % 100
      ∧ t.cycle =
          { s.cycle with
            stepTimer :=
              if s.cycle.state.washStep && s.settled then incTo 120000 s.cycle.stepTimer else s.cycle.stepTimer
            backwashSeconds :=
              if s.cycle.state = .backwash ∧ s.settled then incTo 120000 s.cycle.stepTimer / 100
              else s.cycle.backwashSeconds
            clearHold :=
              if s.cycle.state = .backwash ∧ s.settled ∧ s.cycle.clearRunning then incTo 2000 s.cycle.clearHold
              else s.cycle.clearHold }
      ∧ (∀ v, t.valves.get v =
          { s.valves.get v with
            travel :=
              if (s.valves.get v).driven then incTo 12000 (s.valves.get v).travel else (s.valves.get v).travel
            pause :=
              if (s.valves.get v).state.travelling = true ∧ 1 < (s.valves.get v).pause then (s.valves.get v).pause - 1
              else (s.valves.get v).pause
            openSwitch := sampled (s.valves.get v).openSwitch
            closedSwitch := sampled (s.valves.get v).closedSwitch })
      ∧ (∀ i, t.inputs.get i = sampled (s.inputs.get i))
      ∧ t.arb =
          { s.arb with
            windowTimer :=
              match s.arb.claim with
              | .intent _ .windowed => incTo 200 s.arb.windowTimer
              | _ => s.arb.windowTimer
            backoff := if s.cycle.state = .waiting ∧ 1 < s.arb.backoff then s.arb.backoff - 1 else s.arb.backoff
            refreshTimer := if s.arb.claim.isHold then incTo 200 s.arb.refreshTimer else s.arb.refreshTimer }
      ∧ t.link =
          { s.link with
            successAge := if s.link.successAge < 399 then s.link.successAge + 1 else s.link.successAge
            offTimer := if s.link.mode = .off then incTo 100 s.link.offTimer else s.link.offTimer }
      ∧ t.dose =
          { s.dose with
            readingAge :=
              if s.sampleHolder = false ∧ s.dose.readingAge < 1999 then s.dose.readingAge + 1 else s.dose.readingAge
            pulse := if 1 < s.dose.pulse then s.dose.pulse - 1 else s.dose.pulse
            windows := s.dose.windows.map (incTo 49)
            elapsed := t.dose.elapsed
            countOwed := t.dose.countOwed }
      ∧ (s.phase < 99 → t.dose.elapsed = counted ∧ t.dose.countOwed = s.dose.countOwed)
      ∧ (99 ≤ s.phase →
          (t.dose.elapsed = counted ∧ t.dose.countOwed = s.dose.countOwed)
          ∨ (s.dose.pacing = true ∧ t.dose.elapsed = s.dose.elapsed ∧ t.dose.countOwed = true))
      ∧ t.scan =
          { s.scan with
            channels := t.scan.channels
            scanCount := count
            captureDelay :=
              if s.phase < 99 ∧ s.scan.captureArmed = true ∧ s.cycle.state.filtering = true then
                incTo 6000 s.scan.captureDelay
              else s.scan.captureDelay }
      ∧ (∀ ch, t.scan.channels.get ch =
          { s.scan.channels.get ch with due := decide ((s.scan.channels.get ch).phase = count) })
      ∧ t.peers =
          { s.peers with
            entries := s.peers.entries.map fun e =>
              { e with
                status := e.status.map fun st => { st with age := incTo 400 st.age }
                claimAge := if e.claim = .none then e.claimAge else incTo 60000 e.claimAge } }
      ∧ t.pins = s.pins ∧ t.req = s.req ∧ t.load = s.load ∧ t.supplyOk = s.supplyOk

/-- Every command has an effect, be it none, in every state, and leaves the queue to `step`; while the supply is
below its range none but the supply's own is taken (R159). -/
def Obligations.EveryCommandCompletes : Prop :=
  ∀ (c : Instr) (s : State),
    completes c s (fun t => t.pending = s.pending)
    ∧ (s.supplyOk = false → (∀ straps, c ≠ .powerReset straps) → c ≠ .supplyFallsBelowOperatingRange →
        exec c s = .next s)

/-- A change of cycle state, out of STARTING included, and every second tick outside STARTING offers a STATUS
built from the state after the event (R32, R168): it waits or is in transmission, unless the link is OFF. -/
def Obligations.StatusIsOfferedAtEveryChange : Prop :=
  ∀ (c : Instr) (s : State), s.supplyOk = true →
    completes c s fun t =>
      t.cycle.state ≠ .starting → t.link.mode ≠ .off → (t.cycle.state ≠ s.cycle.state ∨ c = .secondTick) →
        t.link.status = some (statusFrame t) ∨ t.link.inTx = some (statusFrame t)

/-! ### Resets and start -/

/-- POWER_RESET and LINE_RESET leave every block at its values for that kind, the straps read and the load under
way. -/
def Obligations.ResetsGiveEveryBlockItsValues : Prop :=
  ∀ (straps : BitVec 8) (s : State),
    exec (.powerReset straps) s = .next (poweredUp straps s)
    ∧ (s.supplyOk = true → exec (.lineReset straps) s = .next (restartedAs .line straps s))

/-- With the supply gone a POWER reset is held: every output is off and the link has no frame. -/
def Obligations.SupplyFallTurnsEveryOutputOff : Prop :=
  ∀ s : State,
    completes .supplyFallsBelowOperatingRange s fun t =>
      t = { poweredUp s.pins.straps s with supplyOk := false }
      ∧ t.faultLamp = false ∧ t.doseStroke = false ∧ t.acknowledges = false ∧ t.link.inTx = none
      ∧ ∀ v, (t.valves.get v).openDrive = false ∧ (t.valves.get v).closeDrive = false

/-- A pending RESTART is carried out at the completion of its marked ANSWER and at the link going OFF, as a reset of
cause REQUEST; a POWER or LINE reset while the mark is set clears it and is of its own kind (R153). What the reset
leaves in the items that no rule gives a value (the configuration before the load settles, the pins) is the model's
choice (log 9, log 6), and so is that at link OFF the handler's reset comes before the others' effects (log 13). -/
def Obligations.RestartIsCarriedOut : Prop :=
  ∀ (straps : BitVec 8) (s : State) (f : TxFrame), s.supplyOk = true → s.req.pendingRestart = true →
    s.link.inTx = some f →
    (completes (.powerReset straps) s fun t => t.req.pendingRestart = false ∧ t.req.resetCause = .power)
    ∧ (completes (.lineReset straps) s fun t => t.req.pendingRestart = false ∧ t.req.resetCause = .line)
    ∧
    (f.kind = .answer true → exec .txCompletion s = .next (restartedAs .request s.pins.straps s))
    ∧ (255 < s.link.tally + 8 →
        exec .txFailure s = .next (restartedAs .request s.pins.straps
          (s.setLink
            { s.link with
              txFailures := satInc s.link.txFailures, linkOffs := satInc s.link.linkOffs,
              firstError := firstOf s.link.firstError .transmit })))

/-- A good block settles the load: its fields, clamped and the moves counted, are the working configuration;
Qmin_abs and D0 follow from it and scanning begins. -/
def Obligations.GoodBlockSettlesTheLoad : Prop :=
  ∀ (block : List Byte) (s : State), s.supplyOk = true → s.load.outcome = none →
    storedVersion block = 1 → storedChecksum block = fieldSum block →
    completes (.configurationLoadSettles true true true block) s fun t =>
      t = { s with load := t.load, scan := t.scan, serial := t.serial, link := s.link.take }
      ∧ t.load =
          { s.load with
            outcome := some .good
            config := clampAcross (clampFields (storedConfig block))
            clamped :=
              movedFields (storedConfig block) (clampFields (storedConfig block))
              + movedFields (clampFields (storedConfig block)) (clampAcross (clampFields (storedConfig block))) }
      ∧ t.scan.qminAbs = t.cfg.qref * t.cfg.qmin / 100 ∧ t.scan.d0 = t.cfg.d0Default
      ∧ t.scan.scanCount = 0 ∧ t.scanning = true ∧ t.restricted = false
      ∧ ∀ c, (t.scan.channels.get c).value = (s.scan.channels.get c).value
          ∧ (t.scan.channels.get c).condition = (s.scan.channels.get c).condition

/-- A block that is absent, of another version or of a wrong checksum settles the load on the built-in defaults:
RESTRICTED operation, and the FAULT lamp lights. The checks decide in their order. -/
def Obligations.FailedLoadRunsOnTheDefaults : Prop :=
  ∀ (ackWrite ackAddress ackRead : Bool) (block : List Byte) (s : State), s.supplyOk = true →
    s.load.outcome = none →
    ((ackWrite && ackAddress && ackRead) = false ∨ storedVersion block ≠ 1
      ∨ storedChecksum block ≠ fieldSum block) →
    completes (.configurationLoadSettles ackWrite ackAddress ackRead block) s fun t =>
      t.load =
        { s.load with
          outcome :=
            some (if (ackWrite && ackAddress && ackRead) = false then .absent
                  else if storedVersion block ≠ 1 then .version else .checksum)
          config := builtInDefaults
          clamped := 0 }
      ∧ t.restricted = true ∧ t.faultLamp = true ∧ t.scanning = true
      ∧ t = { s with load := t.load, scan := t.scan, serial := t.serial, link := s.link.take }

/-- Whatever the block holds, each of the 38 fields is taken into its range of R164: a value within it as stored, one
outside at the nearer bound, max run with its gap. The six clamps of R165 then move the fields they name and no other,
and the configuration keeps their six bounds; at most 44 moves are counted. -/
def Obligations.ClampedConfigurationKeepsItsBounds : Prop :=
  ∀ (c f w : WorkingConfig), f = clampFields c → w = clampAcross f →
    (takenInto 100 5000 c.qref f.qref ∧ takenInto 10 80 c.qmin f.qmin ∧ takenInto 100 2500 c.dpSpan f.dpSpan
      ∧ takenInto 100 6000 c.flowSpan f.flowSpan ∧ takenInto 100 10000 c.turbiditySpan f.turbiditySpan
      ∧ takenInto 200 1000 c.chlorineSpan f.chlorineSpan ∧ takenInto 10 1000 c.d0Default f.d0Default
      ∧ takenInto 200 2000 c.dlim f.dlim ∧ takenInto 500 1000 c.loadingTrigger f.loadingTrigger
      ∧ takenInto 10 600 c.loadingHold f.loadingHold ∧ takenInto 10 500 c.breakthroughLimit f.breakthroughLimit
      ∧ takenInto 10 600 c.breakthroughHold f.breakthroughHold)
    ∧ ((c.maxRun = 0 → f.maxRun = 0) ∧ (c.maxRun ≠ 0 → takenInto 24 336 c.maxRun f.maxRun))
    ∧ (takenInto 1 255 c.washFlow f.washFlow ∧ takenInto 1 2000 c.drainCapacity f.drainCapacity
      ∧ takenInto 0 7 c.groupMinimum f.groupMinimum ∧ takenInto 20 200 c.contestWindow f.contestWindow
      ∧ takenInto 30 600 c.claimLapse f.claimLapse ∧ takenInto 10 120 c.travelTimeout f.travelTimeout
      ∧ takenInto 30 600 c.drainDownTime f.drainDownTime ∧ takenInto 0 600 c.airScourTime f.airScourTime
      ∧ takenInto 60 900 c.backwashMin f.backwashMin ∧ takenInto 60 1200 c.backwashMax f.backwashMax
      ∧ takenInto 50 2000 c.wasteClearLevel f.wasteClearLevel ∧ takenInto 10 300 c.settleTime f.settleTime
      ∧ takenInto 30 600 c.rinseTime f.rinseTime)
    ∧ (takenInto 0 1 c.sampleHolder f.sampleHolder ∧ takenInto 50 500 c.setpoint f.setpoint
      ∧ takenInto 0 500 c.baseDose f.baseDose ∧ takenInto 0 64 c.trimGain f.trimGain
      ∧ takenInto 50 1000 c.maxDose f.maxDose ∧ takenInto 100 1000 c.highCut f.highCut
      ∧ takenInto 600 900 c.phLow f.phLow ∧ takenInto 600 900 c.phHigh f.phHigh
      ∧ takenInto 50 180 c.strength f.strength ∧ takenInto 100 20000 c.strokeVolume f.strokeVolume
      ∧ takenInto 30 300 c.minStrokeInterval f.minStrokeInterval ∧ takenInto 2 20 c.strokeWidth f.strokeWidth)
    ∧ w =
        { f with
          dlim := if f.dlim < f.d0Default + 100 then f.d0Default + 100 else f.dlim
          backwashMax := if f.backwashMax < f.backwashMin then f.backwashMin else f.backwashMax
          phHigh := if f.phHigh < f.phLow + 20 then f.phLow + 20 else f.phHigh
          washFlow := if f.drainCapacity < f.washFlow then f.drainCapacity else f.washFlow
          claimLapse := if f.claimLapse < f.travelTimeout + 10 then f.travelTimeout + 10 else f.claimLapse
          minStrokeInterval :=
            if f.minStrokeInterval < 2 * f.strokeWidth then 2 * f.strokeWidth else f.minStrokeInterval }
    ∧ w.d0Default + 100 ≤ w.dlim ∧ w.backwashMin ≤ w.backwashMax ∧ w.phLow + 20 ≤ w.phHigh
    ∧ w.washFlow ≤ w.drainCapacity ∧ w.travelTimeout + 10 ≤ w.claimLapse
    ∧ 2 * w.strokeWidth ≤ w.minStrokeInterval ∧ 1 ≤ w.washFlow ∧ w.phHigh ≤ 920
    ∧ movedFields c f + movedFields f w ≤ 44

/-- STARTING ends at the sixth tick after the reset (R161), and not before it (R55), with the survey: the first CLAIM is
RELEASE(START_CLEAN) where both waste valves stand at their closed switches, else a forced HOLD of urgency 255; the
SERVICE set is commanded. -/
def Obligations.StartingEndsWithTheSurvey : Prop :=
  ∀ s : State, s.supplyOk = true → s.cycle.state = .starting → s.load.outcome.isSome = true →
    s.arb.claim = .none →
    (s.phase < 6 → exec .startingEnd s = .next (s.setLink s.link.take))
    ∧ (6 ≤ s.phase → completes .startingEnd s fun t =>
      let clean := s.valves.washOut.atLimit .closed && s.valves.rinse.atLimit .closed
      t.arb.claim = (if clean then .none else .hold 255)
      ∧ t.link =
          ((s.link.offer
              (claimFrame s none (if clean then [3, 0, 0, 2] else [2, 255, byte s.cfg.washFlow, 0]))).offer
            (statusFrame t)).take
      ∧ t.dose.periodCount = 0
      ∧ (noBothAsserted s = false → t.cycle.state = .lockedOut)
      ∧ (noBothAsserted s = true →
          t.cycle.state =
            (if standsAt serviceSet s then (if s.cycle.due = .none then .inService else .waiting)
             else .recovering)
          ∧ ∀ v, (t.valves.get v).state =
              (if (s.valves.get v).atLimit (serviceSet v) then settledAt (serviceSet v)
               else towards (serviceSet v))
            ∧ (t.valves.get v).target = some (serviceSet v) ∧ (t.valves.get v).travel = 0)
      ∧ t.req = s.req ∧ t.load = s.load ∧ t.pins = s.pins ∧ t.inputs = s.inputs ∧ t.scan = s.scan
      ∧ t.peers = s.peers ∧ t.cycle.records = s.cycle.records ∧ t.cycle.runSeconds = s.cycle.runSeconds)

/-! ### The second tick -/

/-- A second tick counts the run seconds in a filtering state, then the wait in WAITING, and raises or upgrades
the due reason on the conditions as they then stand (R3, R4, R6, R7, R47). That a station which enters WAITING there
may enter CONTEST at the same second tick is the model's inference (log 23) from the order of 95: "the scanner, cycle
controller, arbiter, dosing unit and STATUS offer take their once-per-second work in order". -/
def Obligations.SecondTickCountsAndRaisesTheDueReason : Prop :=
  ∀ s : State, s.supplyOk = true →
    let run := if s.cycle.state.filtering then incTo 4294967295 s.cycle.runSeconds else s.cycle.runSeconds
    let r : DueReason :=
      if (scannerSecond s).breakthroughPresented then .turbidity
      else if (scannerSecond s).loadingPresented then .loading
      else if s.cfg.maxRun ≠ 0 ∧ s.cfg.maxRun ≤ run / 3600 then .runtime
      else .none
    completes .secondTick s fun t =>
      t.cycle.runSeconds = run ∧ t.cycle.records = s.cycle.records
      ∧ (s.cycle.state = .inService → r = .none →
          t.cycle.state = .inService ∧ t.cycle.due = s.cycle.due
          ∧ t.cycle.waitMinutes = s.cycle.waitMinutes ∧ t.cycle.waitSeconds = s.cycle.waitSeconds)
      ∧ (s.cycle.state = .inService → r ≠ .none →
          (t.cycle.state = .waiting ∨ t.cycle.state = .contest) ∧ t.cycle.due = r
          ∧ t.cycle.waitMinutes = 0 ∧ t.cycle.waitSeconds = 0)
      ∧ (s.cycle.state = .waiting →
          (t.cycle.state = .waiting ∨ t.cycle.state = .contest)
          ∧ t.cycle.due = (if s.cycle.due.code < r.code then r else s.cycle.due)
          ∧ t.cycle.waitSeconds = (if s.cycle.waitSeconds < 59 then s.cycle.waitSeconds + 1 else 0)
          ∧ t.cycle.waitMinutes =
              (if s.cycle.waitSeconds < 59 then s.cycle.waitMinutes else incTo 63 s.cycle.waitMinutes))
      ∧ (s.cycle.state = .contest →
          t.cycle.state = .contest ∧ t.arb.claim = s.arb.claim
          ∧ t.cycle.due = (if s.cycle.due.code < r.code then r else s.cycle.due)
          ∧ t.cycle.waitMinutes = s.cycle.waitMinutes ∧ t.cycle.waitSeconds = s.cycle.waitSeconds)
      ∧ (s.cycle.state.filtering = false → t.cycle = s.cycle)

/-- The loading computation of a second tick (R39 to R42), and the capture in its place (R45, R46). -/
def Obligations.SecondTickComputesTheLoadingOrCaptures : Prop :=
  ∀ s : State, s.supplyOk = true →
    let dc := min 4000 (s.scan.channels.dp.value * s.cfg.qref / s.scan.channels.flow.value)
    let computable :=
      s.cycle.state.filtering && !s.scan.channels.dp.isFaulted && !s.scan.channels.flow.isFaulted
        && s.scan.qminAbs ≤ s.scan.channels.flow.value
    let delay :=
      if s.scan.captureArmed && s.cycle.state.filtering then incTo 6000 s.scan.captureDelay
      else s.scan.captureDelay
    let l := if dc ≤ s.scan.d0 then 0 else min 1000 ((dc - s.scan.d0) * 1000 / (s.cfg.dlim - s.scan.d0))
    completes .secondTick s fun t =>
      (computable = false →
        t.scan.ring = s.scan.ring ∧ t.scan.d0 = s.scan.d0 ∧ t.scan.captureArmed = s.scan.captureArmed
        ∧ t.scan.captureDelay = delay)
      ∧ (computable = true → s.scan.captureArmed = true → delay = 6000 →
          t.scan.ring = [] ∧ t.scan.d0 = min dc (s.cfg.dlim - 50) ∧ t.scan.captureArmed = false
          ∧ t.scan.captureDelay = 0)
      ∧ (computable = true → (s.scan.captureArmed && delay = 6000) = false →
          t.scan.ring = (if s.scan.ring.length < 8 then s.scan.ring else s.scan.ring.drop 1) ++ [l]
          ∧ t.scan.d0 = s.scan.d0 ∧ t.scan.captureArmed = s.scan.captureArmed ∧ t.scan.captureDelay = delay)
      ∧ t.scan.channels = s.scan.channels ∧ t.scan.qminAbs = s.scan.qminAbs ∧ t.scan.scanCount = s.scan.scanCount

/-- The two hold timers at a second tick, after the push or capture of that tick (R48, R50). -/
def Obligations.SecondTickUpdatesTheHoldTimers : Prop :=
  ∀ s : State, s.supplyOk = true →
    completes .secondTick s fun t =>
      t.scan.loadingTimer =
        (match t.scan.ls with
          | none => 0
          | some ls =>
            if s.cycle.state.filtering && s.cfg.loadingTrigger ≤ ls then
              incTo s.cfg.loadingHold s.scan.loadingTimer
            else 0)
      ∧ t.scan.breakthroughTimer =
        (if s.cycle.state.filtering && !s.scan.channels.outletTurbidity.isFaulted
            && s.cfg.breakthroughLimit ≤ s.scan.channels.outletTurbidity.value then
          incTo s.cfg.breakthroughHold s.scan.breakthroughTimer
        else 0)

/-- The four rows that name what comes about at a second tick (log 4): where it comes about each is that second
tick, with what it names. -/
def Obligations.NamedSecondTicksAreSecondTicks : Prop :=
  ∀ s : State, s.supplyOk = true →
    (loadingHoldReaches s = true → exec .loadingHoldReached s = exec .secondTick s
      ∧ completes .loadingHoldReached s fun t => t.scan.loadingTimer = s.cfg.loadingHold)
    ∧ (breakthroughHoldReaches s = true → exec .breakthroughHoldReached s = exec .secondTick s
      ∧ completes .breakthroughHoldReached s fun t => t.scan.breakthroughTimer = s.cfg.breakthroughHold)
    ∧ (s.cycle.state = .waiting → 59 ≤ s.cycle.waitSeconds → exec .waitMinute s = exec .secondTick s
      ∧ completes .waitMinute s fun t =>
          t.cycle.waitSeconds = 0 ∧ t.cycle.waitMinutes = incTo 63 s.cycle.waitMinutes)
    ∧ (s.sampleHolder = true → s.cycle.state ≠ .starting → 4 ≤ s.dose.periodCount →
        exec .readingPeriod s = exec .secondTick s
        ∧ completes .readingPeriod s fun t =>
            t.dose.periodCount = 0 ∧ t.dose.source = some s.load.station
            ∧ (s.link.mode ≠ .off → t.link.reading = some (readingFrame t) ∨ t.link.inTx = some (readingFrame t)))

/-- In WAITING with the claim NONE, a second tick runs the admission test where the conditions for a new intent
hold; where it passes, the urgency formed there is frozen in an INTENT and CONTEST is entered (R92, R8). The WAITING
that this second tick itself enters is taken in, which is the model's inference (log 23) from the order of 95. -/
def Obligations.SecondTickEntersAContest : Prop :=
  ∀ s : State, s.supplyOk = true →
    let m := cycleSecond (scannerSecond s)
    let claim := claimFrame s (some (s.arb.intentNumber + 1))
      [1, byte (formedUrgency m), byte s.cfg.washFlow, 0]
    completes .secondTick s fun t =>
      ((m.cycle.state = .waiting ∧ s.arb.claim = .none ∧ intentConditions m = true ∧ admission m = true) →
        t.cycle.state = .contest
        ∧ t.arb = { s.arb with
                    claim := .intent (formedUrgency m) .pending, windowTimer := 0,
                    intentNumber := s.arb.intentNumber + 1, backoff := 0 }
        ∧ (t.link.claim = some claim ∨ t.link.inTx = some claim))
      ∧ (¬ (m.cycle.state = .waiting ∧ s.arb.claim = .none ∧ intentConditions m = true ∧ admission m = true) →
          t.cycle.state = m.cycle.state ∧ t.arb = s.arb)
      ∧ t.peers = s.peers ∧ t.valves = s.valves ∧ t.req = s.req ∧ t.load = s.load ∧ t.inputs = s.inputs
      ∧ t.pins = s.pins

/-- A second tick decides the dosing mode by the first line of R115 that holds, on the record of R110, and forms
d and I (R117, R118); in HELD and FAULT, and with d 0, the pacer stops (R121); else a stroke begins where the
elapsed count is at or above the new I (R120), and the tick of a stroke counts nothing toward the next (R119). Below
the new I the count goes on; where the tick's own count comes after the recompute, it is made here and may itself
reach I (R120, second order; the mark `countOwed` is the model's own, log 26). -/
def Obligations.SecondTickDecidesDosing : Prop :=
  ∀ s : State, s.supplyOk = true → 30 ≤ s.cfg.minStrokeInterval →
    let chl := s.scan.channels.chlorine
    let ph := s.scan.channels.ph
    let f := if s.sampleHolder then chl.value else s.dose.readingF
    let phv := if s.sampleHolder then ph.value else s.dose.readingPh
    let good :=
      if s.sampleHolder then !chl.isFaulted && !ph.isFaulted
      else s.dose.source.isSome && s.dose.readingAge < 2000 && s.dose.analyser = .good
    let q := s.scan.channels.flow
    let mode : DosingMode :=
      if s.dose.faultLatch then .fault
      else if s.cycle.state.filtering = false ∨ s.restricted = true ∨ s.inputs.flowOk.level = false
          ∨ q.isFaulted = true ∨ q.value < s.scan.qminAbs ∨ (good = true ∧ s.cfg.highCut ≤ f) then .held
      else if good = true ∧ s.cfg.phLow ≤ phv ∧ phv ≤ s.cfg.phHigh then .trimmed
      else .base
    let trim : Int := (((s.cfg.setpoint : Int) - f) * s.cfg.trimGain).tdiv 16
    let d : Nat :=
      match mode with
      | .held | .fault => 0
      | .base => min s.cfg.maxDose s.cfg.baseDose
      | .trimmed => min s.cfg.maxDose ((s.cfg.baseDose : Int) + trim).toNat
    let i := min 65535
      (max s.cfg.minStrokeInterval (360 * s.cfg.strength * s.cfg.strokeVolume / (q.value * d)))
    completes .secondTick s fun t =>
      t.dose.mode = mode ∧ t.dose.dose = d ∧ t.dose.interval = (if d = 0 then none else some i)
      ∧ t.dose.readingF = f ∧ t.dose.readingPh = phv ∧ t.dose.faultLatch = s.dose.faultLatch
      ∧ t.dose.missCount = s.dose.missCount
      ∧ (d = 0 → t.dose.elapsed = 0 ∧ t.dose.strokeCount = s.dose.strokeCount ∧ t.dose.pulse = s.dose.pulse
          ∧ t.dose.windows = s.dose.windows)
      ∧ (d ≠ 0 →
          let fires := i ≤ s.dose.elapsed ∨ (s.dose.countOwed = true ∧ i ≤ incTo 65535 s.dose.elapsed)
          t.dose.countOwed = false
          ∧ (fires →
              t.dose.elapsed = 0 ∧ t.dose.pulse = s.cfg.strokeWidth
              ∧ t.dose.strokeCount = (s.dose.strokeCount + 1) % 65536 ∧ t.dose.windows = s.dose.windows ++ [0])
          ∧ (¬ fires →
              t.dose.elapsed = (if s.dose.countOwed then incTo 65535 s.dose.elapsed else s.dose.elapsed)
              ∧ t.dose.strokeCount = s.dose.strokeCount ∧ t.dose.pulse = s.dose.pulse
              ∧ t.dose.windows = s.dose.windows))

/-! ### Measurement -/

/-- A conversion is judged by its count, publishes its value where it is good, and moves the channel's condition
by the tables of R36 and R37; the other channels stand. One of channel 2 below the limit or faulted breaks the
breakthrough hold (R50); one of channel 3 is judged by the clear-hold timer in a settled BACKWASH (R16); no other
conversion reaches either. It is taken once, at the channel's own tick (R33). The model's choices: the mark that it
is due, and that a count told at another moment is the level at the pin alone (log 6), and the mark of the clear-hold
timer that counts (log 17). -/
def Obligations.ConversionMovesItsChannel : Prop :=
  ∀ (ch : ChannelId) (count : BitVec 12) (s : State), s.supplyOk = true →
    ((s.scan.channels.get ch).due = false →
      exec (.conversion ch count) s = .next ((s.setPins (s.pins.setAnalog ch count)).setLink s.link.take))
    ∧ ((s.scan.channels.get ch).due = true → completes (.conversion ch count) s fun t =>
      let n := count.toNat
      let r := s.scan.channels.get ch
      let r' := t.scan.channels.get ch
      r'.due = false ∧ r'.phase = r.phase
      ∧ ((720 ≤ n ∧ n ≤ 4080) →
        r'.value = (min 4000 (max 800 n) - 800) * spanOf s.cfg ch / 3200
        ∧ (r'.condition, r'.run) =
          (match r.condition with
            | .unseen | .normal | .doubtful => (Condition.normal, 0)
            | .faulted => (.clearing, 1)
            | .clearing => if r.run < 2 then (.clearing, r.run + 1) else (.normal, 0)))
      ∧ (¬ (720 ≤ n ∧ n ≤ 4080) →
          r'.value = r.value
          ∧ (r'.condition, r'.run) =
            (match r.condition with
              | .unseen => (Condition.unseen, 0)
              | .normal => (.doubtful, 1)
              | .doubtful => if r.run < 2 then (.doubtful, r.run + 1) else (.faulted, 0)
              | .faulted | .clearing => (.faulted, 0)))
      ∧ (∀ other, other ≠ ch → t.scan.channels.get other = s.scan.channels.get other)
      ∧ t = { s with pins := s.pins.setAnalog ch count, scan := t.scan, cycle := t.cycle, link := s.link.take }
      ∧ t.scan =
          { s.scan with
            channels := t.scan.channels
            breakthroughTimer :=
              if ch = .outletTurbidity ∧ (r'.isFaulted = true ∨ r'.value < s.cfg.breakthroughLimit) then 0
              else s.scan.breakthroughTimer }
      ∧ t.cycle =
          (if ch = .wasteTurbidity ∧ s.cycle.state = .backwash ∧ s.settled = true then
            if r'.isFaulted = true ∨ s.cfg.wasteClearLevel < r'.value then
              { s.cycle with clearHold := 0, clearRunning := false }
            else { s.cycle with clearRunning := true }
           else s.cycle))

/-! ### The wash -/

/-- DRAIN_DOWN, AIR_SCOUR and SETTLE end when their step timers stand at their times, in the next step with its
set commanded (R13, R14, R17). -/
def Obligations.WashStepsFollowOneAnother : Prop :=
  ∀ s : State, s.supplyOk = true → noBothAsserted s = true → s.settled = true →
    (s.cycle.state = .drainDown → s.cfg.drainDownTime * 100 ≤ s.cycle.stepTimer →
      completes .drainDownEnd s (stepEntered (if s.cfg.airScourTime = 0 then .backwash else .airScour) s))
    ∧ (s.cycle.state = .airScour → s.cfg.airScourTime * 100 ≤ s.cycle.stepTimer →
      completes .airScourEnd s (stepEntered .backwash s))
    ∧ (s.cycle.state = .settle → s.cfg.settleTime * 100 ≤ s.cycle.stepTimer →
      completes .settleEnd s (stepEntered .rinse s))

/-- BACKWASH ends COMPLETE at or above its minimum with the clear held for 2000 ticks, and COMPLETE_UNCLEAR at its
maximum without (R15); CLEAR_HOLD_REACHED ends it where the minimum has run (R16). -/
def Obligations.BackwashEndsClearOrAtItsMaximum : Prop :=
  ∀ s : State, s.supplyOk = true → noBothAsserted s = true → s.settled = true → s.cycle.state = .backwash →
    let ended := fun (o : WashOutcome) =>
      s.setCycle { s.cycle with outcome := some o, backwashSeconds := s.cycle.stepTimer / 100 }
    (s.cfg.backwashMin * 100 ≤ s.cycle.stepTimer → 2000 ≤ s.cycle.clearHold →
      completes .backwashEnd s (stepEntered .settle (ended .complete))
      ∧ completes .clearHoldReached s (stepEntered .settle (ended .complete)))
    ∧ (s.cfg.backwashMin ≤ s.cfg.backwashMax → s.cfg.backwashMax * 100 ≤ s.cycle.stepTimer →
        s.cycle.clearHold < 2000 → completes .backwashEnd s (stepEntered .settle (ended .completeUnclear)))
    ∧ (s.cycle.stepTimer < s.cfg.backwashMin * 100 →
        exec .clearHoldReached s = .next (s.setLink s.link.take))

/-- RINSE ends in RETURNING, with the outcome as it stands and the SERVICE set commanded (R17, R21); where every
channel already stands in the SERVICE set the wash is completed at that event (R2, R22). -/
def Obligations.RinseEndsInReturning : Prop :=
  ∀ s : State, s.supplyOk = true → noBothAsserted s = true → s.settled = true → s.cycle.state = .rinse →
    s.cfg.rinseTime * 100 ≤ s.cycle.stepTimer →
    (standsAt serviceSet s = false → completes .rinseEnd s (returningEntered s.link s))
    ∧ (standsAt serviceSet s = true →
        (completes .rinseEnd s fun t => t.cycle.state = .inService ∨ t.cycle.state = .waiting)
        ∧ ∀ o, s.cycle.outcome = some o →
            completes .rinseEnd s (washCompleted o (releasedLink s s.link) (commandedTo serviceSet s)))

/-- TANK_LOW asserting in a wash step cuts it short as CUT_SHORT_TANK (R18, R157): RETURNING, with the claim kept. Where
every channel still stands at its SERVICE switch, as in the first ticks of DRAIN_DOWN, the wash is completed at that
event (R2, R22). -/
def Obligations.TankLowCutsAWashShort : Prop :=
  ∀ s : State, s.supplyOk = true → noBothAsserted s = true → s.cycle.state.washStep = true →
    s.inputs.tankLow.level = false →
    let low := s.setInputs { s.inputs with tankLow := .changeTo true }
    (standsAt serviceSet s = false →
      completes .tankLowAssert s (returningEntered s.link (cutShortAs .cutShortTank low)))
    ∧ (standsAt serviceSet s = true →
        completes .tankLowAssert s (cutShortAtOnce .cutShortTank (releasedLink s s.link) low))

/-- The last confirmation of the SERVICE set in RETURNING completes the wash (R22, R29, R103): the release, the
record, the run seconds, the next state by outcome, the back-off or the clean-bed signal. -/
def Obligations.LastArrivalCompletesTheWash : Prop :=
  ∀ (v : ValveId) (o : WashOutcome) (s : State), s.supplyOk = true → s.cycle.state = .returning →
    s.cycle.outcome = some o → (s.valves.get v).state = towards (serviceSet v) →
    ((s.valves.get v).switch (serviceSet v)).level = false →
    ((s.valves.get v).switch (serviceSet v).other).level = false →
    s.cycle.confirmed.get v = false → (∀ other, other ≠ v → s.cycle.confirmed.get other = true) →
    completes (.limitSwitchChange v (serviceSet v) true) s fun t =>
      let again := o = .yielded ∨ o = .cutShortTank ∨ o = .cutShortLink
      let clean := o = .complete ∨ o = .completeUnclear
      t.cycle =
        { s.cycle with
          state := if again then .waiting else .inService
          due := if again then s.cycle.due else .none
          waitMinutes := if again then s.cycle.waitMinutes else 0
          waitSeconds := if again then s.cycle.waitSeconds else 0
          stepTimer := 0, clearHold := 0, clearRunning := false
          outcome := none, backwashSeconds := 0
          runSeconds := if s.cfg.backwashMin ≤ s.cycle.backwashSeconds then 0 else s.cycle.runSeconds
          records :=
            ({ due := s.cycle.due, outcome := o, backwashSeconds := s.cycle.backwashSeconds,
               volume := s.cfg.washFlow * s.cycle.backwashSeconds / 360 } :: s.cycle.records).take 4
          confirmed := s.cycle.confirmed.mark v }
      ∧ t.arb =
          { s.arb with
            claim := .none, refreshTimer := 0,
            backoff := if again then 200 + 10 * s.load.station else s.arb.backoff }
      ∧ t.scan = (if clean then { s.scan with captureArmed := true, captureDelay := 0 } else s.scan)
      ∧ t.link = ((s.link.offer (claimFrame s none [3, 0, 0, 0])).offer (statusFrame t)).take
      ∧ (t.valves.get v).state = settledAt (serviceSet v)
      ∧ (∀ other, other ≠ v → t.valves.get other = s.valves.get other)
      ∧ t = { s with cycle := t.cycle, arb := t.arb, scan := t.scan, link := t.link, valves := t.valves }

/-! ### The valve channels -/

/-- A command toward a position, by the cases and the table of R57 with R58. -/
def Obligations.CommandFollowsTheTable : Prop :=
  ∀ (c : Valve) (p : Position),
    (c.atLimit p = true →
      c.command p = ({ c with state := settledAt p, target := some p, travel := 0, pause := 0 }, .confirmation))
    ∧ (c.bothAsserted = true →
      c.command p = ({ c with state := .fault .switches, target := none, travel := 0, pause := 0 }, .fault))
    ∧ (c.atLimit p = false → c.bothAsserted = false →
        (c.state = towards p → c.command p = ({ c with target := some p }, .none))
        ∧ (c.state = towards p.other →
            c.command p =
              ({ c with
                 state := towards p, target := some p, pause := if c.pause = 0 then 20 else c.pause }, .none))
        ∧ (c.state.travelling = false →
            c.command p = ({ c with state := towards p, target := some p, travel := 0, pause := 0 }, .none)))

/-- A stop command, by the table of R59. -/
def Obligations.StopFollowsTheTable : Prop :=
  ∀ c : Valve,
    (c.state = .opening ∨ c.state = .closing →
      c.stop = { c with state := .stopped, target := none, travel := 0, pause := 0 })
    ∧ (c.state = .closed ∨ c.state = .opened → c.stop = { c with target := none })
    ∧ (c.state.isFault = true ∨ c.state = .stopped → c.stop = c)

/-- A limit switch change that makes no fault, outside STARTING: an arrival settles its channel (R60), a STOPPED
channel resolves (R64), and any other change leaves the channel's state; in STARTING it reaches the debounced
level alone (R54). Every other channel stands. The last arrival settles the set: RECOVERING ends in WAITING or
IN_SERVICE with a HOLD released (R24, R104), ISOLATING in ISOLATED (R25); in a wash step the set is settled, which is
all that comes about at that event: the step timer counts from it (R2). One that is not the last confirms its channel
alone. In LOCKED_OUT a waste valve that resolves to CLOSED releases the HOLD where the other is CLOSED (R104). -/
def Obligations.SwitchChangeSettlesOrResolves : Prop :=
  ∀ (v : ValveId) (p : Position) (level : Bool) (s : State), s.supplyOk = true →
    let c := s.valves.get v
    let c1 := c.setSwitch p { raw := level, level := level, run := 0 }
    level ≠ (c.switch p).level →
    (s.cycle.state = .starting →
      completes (.limitSwitchChange v p level) s fun t =>
        t = { s with valves := s.valves.set v c1, link := s.link.take })
    ∧ (s.cycle.state ≠ .starting → c1.bothAsserted = false → c.state ≠ settledAt p →
        completes (.limitSwitchChange v p level) s fun t =>
          t.valves.get v =
            { c1 with
              state :=
                if c.state = towards p ∧ level = true then settledAt p
                else if c.state = .stopped ∧ c1.atLimit .opened = true then .opened
                else if c.state = .stopped ∧ c1.atLimit .closed = true then .closed
                else c.state
              travel := if c.state = towards p ∧ level = true then 0 else c.travel
              pause := if c.state = towards p ∧ level = true then 0 else c.pause }
          ∧ (∀ other, other ≠ v → t.valves.get other = s.valves.get other)
          ∧ t.pins = s.pins ∧ t.inputs = s.inputs ∧ t.peers = s.peers ∧ t.req = s.req ∧ t.load = s.load)
    ∧ (level = true → c1.bothAsserted = false → c.state = towards p → s.cycle.confirmed.get v = false →
        let m := settledBy v p c1 s
        ((∀ other, other ≠ v → s.cycle.confirmed.get other = true) →
          (s.cycle.state = .recovering → completes (.limitSwitchChange v p level) s (recoveryOver m))
          ∧ (s.cycle.state = .isolating → completes (.limitSwitchChange v p level) s (isolationReached m))
          ∧ (s.cycle.state.washStep = true →
              s.settled = false ∧ m.settled = true
              ∧ exec (.limitSwitchChange v p level) s = .next (m.setLink s.link.take)))
        ∧ (s.cycle.state ≠ .starting → s.cycle.state ≠ .lockedOut →
            (∃ other, other ≠ v ∧ s.cycle.confirmed.get other = false) →
            exec (.limitSwitchChange v p level) s = .next (m.setLink s.link.take)))
    ∧ (level = true → p = .closed → c1.bothAsserted = false → c.state = .stopped → s.cycle.state = .lockedOut →
        let shut := s.setValves (s.valves.set v { c1 with state := .closed })
        (isWaste v = true ∧ s.arb.claim.isHold = true ∧ shut.valves.wasteClosed = true →
          exec (.limitSwitchChange v p level) s =
            .next ((shut.setArb { s.arb with claim := .none, refreshTimer := 0 }).setLink
              (releasedLink s s.link).take))
        ∧ (¬ (isWaste v = true ∧ s.arb.claim.isHold = true ∧ shut.valves.wasteClosed = true) →
            exec (.limitSwitchChange v p level) s = .next (shut.setLink s.link.take)))

/-- A reversal pause at its last tick ends: the channel settles and confirms where it stands at its target, and
starts its drive elsewhere (R58). Where it is the last of its set to confirm, the set settles at that event: RETURNING
completes the wash (R22), RECOVERING and ISOLATING end (R24, R25, R104), and the step timer of a wash step counts from
it (R2). One that is not the last confirms its channel alone. -/
def Obligations.ReversalPauseEndsInADriveOrASettlement : Prop :=
  ∀ (v : ValveId) (p : Position) (s : State), s.supplyOk = true →
    let c := s.valves.get v
    c.state = towards p → c.pause = 1 →
    (c.atLimit p = false →
      completes (.reversalPauseEnd v) s fun t =>
        t = { s with
              valves := s.valves.set v { c with state := towards p, travel := 0, pause := 0 }
              link := s.link.take })
    ∧ (c.atLimit p = true →
        completes (.reversalPauseEnd v) s fun t =>
          t.valves.get v = { c with state := settledAt p, travel := 0, pause := 0 }
          ∧ t.cycle.confirmed.get v = true)
    ∧ (c.atLimit p = true → s.cycle.confirmed.get v = false →
        (∀ other, other ≠ v → s.cycle.confirmed.get other = true) →
        let m := settledBy v p c s
        (∀ o, s.cycle.state = .returning → s.cycle.outcome = some o →
          completes (.reversalPauseEnd v) s (washCompleted o (releasedLink s s.link) m))
        ∧ (s.cycle.state = .recovering → completes (.reversalPauseEnd v) s (recoveryOver m))
        ∧ (s.cycle.state = .isolating → completes (.reversalPauseEnd v) s (isolationReached m))
        ∧ (s.cycle.state.washStep = true →
            s.settled = false ∧ m.settled = true ∧ exec (.reversalPauseEnd v) s = .next (m.setLink s.link.take)))
    ∧ (c.atLimit p = true → s.cycle.confirmed.get v = false → s.cycle.state ≠ .starting →
        s.cycle.state ≠ .lockedOut → (∃ other, other ≠ v ∧ s.cycle.confirmed.get other = false) →
        exec (.reversalPauseEnd v) s = .next ((settledBy v p c s).setLink s.link.take))

/-- A travel that times out faults its channel (R61, cause TRAVEL), and a settled channel whose switch releases
does (R63, cause LOST). The cycle takes the fault by its state: lockout from RECOVERING, RETURNING, ISOLATING and
ISOLATED (R27, R28), with a LOCKED record from RETURNING (R29); RETURNING as CUT_SHORT_VALVE from a wash step
(R20), and the wash completed at that event where every channel stands at its SERVICE switch (R2, R22); RECOVERING
with the due reason kept from a filtering state (R23). There a waste valve that leaves CLOSED makes a forced hold with
its CLAIM HOLD (R101), a contest without one is withdrawn from with RELEASE(WITHDRAWN) (R97), a back-off ends (R98) and
the dosing unit is held (R116). In LOCKED_OUT a settled waste valve that so leaves CLOSED makes a forced hold (R101),
and any other channel faults alone. -/
def Obligations.ValveFaultMovesTheCycle : Prop :=
  ∀ (v : ValveId) (p : Position) (cmd : Instr) (s : State), s.supplyOk = true →
    ((cmd = .travelTimeout v ∧ (s.valves.get v).driven = true
        ∧ s.cfg.travelTimeout * 100 ≤ (s.valves.get v).travel)
      ∨ (cmd = .limitSwitchChange v p false ∧ (s.valves.get v).state = settledAt p
        ∧ ((s.valves.get v).switch p).level = true)) →
    let c := if cmd = .travelTimeout v then s.valves.get v else (s.valves.get v).setSwitch p (.changeTo false)
    let faulted := s.setValves (s.valves.set v c)
    let cause : FaultCause := if cmd = .travelTimeout v then .travel else .lost
    let after := s.setValves (s.valves.set v { c with state := .fault cause, target := none, travel := 0, pause := 0 })
    let forced := isWaste v = true ∧ (s.valves.get v).state = .closed ∧ s.arb.claim.isHold = false
    let withdrawn := s.cycle.state = .contest ∧ s.arb.claim.isIntent = true
    (s.cycle.state = .recovering ∨ s.cycle.state = .returning ∨ s.cycle.state = .isolating
        ∨ s.cycle.state = .isolated →
      completes cmd s fun t =>
        t.cycle.state = .lockedOut ∧ (∀ w, (t.valves.get w).state.travelling = false)
        ∧ (t.valves.get v).state = .fault (if cmd = .travelTimeout v then .travel else .lost)
        ∧ t.cycle.due = s.cycle.due
        ∧ t.cycle.records =
            (if s.cycle.state = .returning then
              ({ due := s.cycle.due, outcome := .locked, backwashSeconds := s.cycle.backwashSeconds,
                 volume := s.cfg.washFlow * s.cycle.backwashSeconds / 360 } :: s.cycle.records).take 4
             else s.cycle.records)
        ∧ (t.arb.claim.isHold = true → t.valves.wasteClosed = false))
    ∧ (s.cycle.state = .lockedOut →
        exec cmd s =
          .next (if forced then (after.setArb (heldByForce s.arb)).setLink (forcedLink s s.link).take
                 else after.setLink s.link.take))
    ∧ (noBothAsserted s = true → s.cycle.state.washStep = true → standsAt serviceSet faulted = false →
        completes cmd s fun t =>
          t.cycle.state = .returning ∧ t.cycle.outcome = some .cutShortValve ∧ t.cycle.stepTimer = 0
          ∧ t.arb = s.arb ∧ t.cycle.records = s.cycle.records
          ∧ ∀ w, (t.valves.get w).target = some (serviceSet w))
    ∧ (noBothAsserted s = true → s.cycle.state.washStep = true → standsAt serviceSet faulted = true →
        completes cmd s (cutShortAtOnce .cutShortValve (releasedLink s s.link) after))
    ∧ (noBothAsserted s = true → s.cycle.state.filtering = true → standsAt serviceSet faulted = false →
        closedStand s = true →
        completes cmd s fun t =>
          let arb :=
            if forced then heldByForce s.arb
            else if withdrawn then { s.arb with claim := .none, windowTimer := 0 } else s.arb
          let offered :=
            if forced then forcedLink s s.link else if withdrawn then withdrawnLink s s.link else s.link
          t = { after with
                cycle := { cycleIn .recovering s.cycle with confirmed := after.valves.confirmations serviceSet }
                valves := after.valves.command serviceSet
                arb := { arb with backoff := if s.cycle.state = .waiting then 0 else arb.backoff }
                dose := doseHeld s.dose
                link := (offered.offer (statusFrame t)).take })
    ∧ (noBothAsserted s = true → s.cycle.state.filtering = true → standsAt serviceSet faulted = false →
        completes cmd s fun t =>
          t.cycle.state = .recovering ∧ t.cycle.due = s.cycle.due ∧ t.cycle.waitMinutes = s.cycle.waitMinutes
          ∧ t.cycle.waitSeconds = s.cycle.waitSeconds ∧ t.dose.interval = none ∧ t.dose.elapsed = 0
          ∧ ∀ w, (t.valves.get w).target = some (serviceSet w))

/-- A limit switch change that leaves both switches asserted faults its channel with cause SWITCHES (R62); in FAULT it
changes the cause alone. In a wash step, RETURNING and a filtering state the SERVICE command of the same event cannot
take the fault away (R57), so that the station locks out there (R20, R23, R27), as it does from RECOVERING, ISOLATING
and ISOLATED: a LOCKED record from a wash (R29), the due reason kept, every channel stopped (R28), and the drain held
exactly while a waste valve is not CLOSED (R101, R104). In LOCKED_OUT a waste valve that leaves CLOSED so makes a forced
hold (R101). -/
def Obligations.SecondSwitchFaultsTheChannel : Prop :=
  ∀ (v : ValveId) (p : Position) (s : State), s.supplyOk = true → s.cycle.state ≠ .starting → closedStand s = true →
    ((s.valves.get v).switch p).level = false → ((s.valves.get v).switch p.other).level = true →
    let c := { (s.valves.get v).setSwitch p (.changeTo true) with
               state := .fault .switches, target := none, travel := 0, pause := 0 }
    let m := s.setValves (s.valves.set v c)
    let cmd := Instr.limitSwitchChange v p true
    let wash := s.cycle.state.washStep = true ∨ s.cycle.state = .returning
    let forced := isWaste v = true ∧ (s.valves.get v).state = .closed ∧ s.arb.claim.isHold = false ∧ ¬ wash
    let withdrawn := ¬ forced ∧ s.cycle.state = .contest ∧ s.arb.claim.isIntent = true
    let seconds := if s.cycle.state = .backwash then s.cycle.stepTimer / 100 else s.cycle.backwashSeconds
    ((s.valves.get v).state.isFault = true → exec cmd s = .next (m.setLink s.link.take))
    ∧ ((s.valves.get v).state.isFault = false → s.cycle.state = .lockedOut →
        exec cmd s =
          .next (if forced then (m.setArb (heldByForce s.arb)).setLink (forcedLink s s.link).take
                 else m.setLink s.link.take))
    ∧ ((s.valves.get v).state.isFault = false → s.cycle.state ≠ .lockedOut →
        completes cmd s fun t =>
          let holds := (forced ∨ s.arb.claim.isHold = true) ∧ t.valves.wasteClosed = false
          let released := (forced ∨ s.arb.claim.isHold = true) ∧ t.valves.wasteClosed = true
          let offered :=
            if forced then forcedLink s s.link else if withdrawn then withdrawnLink s s.link else s.link
          t.cycle.state = .lockedOut ∧ t.valves.get v = c ∧ (∀ w, (t.valves.get w).state.travelling = false)
          ∧ t.cycle.due = s.cycle.due ∧ t.cycle.waitMinutes = s.cycle.waitMinutes
          ∧ t.cycle.runSeconds = s.cycle.runSeconds
          ∧ t.cycle.records =
              (if wash then
                ({ due := s.cycle.due, outcome := .locked, backwashSeconds := seconds,
                   volume := s.cfg.washFlow * seconds / 360 } :: s.cycle.records).take 4
               else s.cycle.records)
          ∧ (wash → t.cycle.outcome = none ∧ t.cycle.backwashSeconds = 0)
          ∧ (holds → t.arb.claim = if forced then .hold 255 else s.arb.claim)
          ∧ (released ∨ withdrawn → t.arb.claim = .none)
          ∧ (¬ holds → ¬ released → ¬ withdrawn → t.arb.claim = s.arb.claim)
          ∧ t.link = ((if released then releasedLink s offered else offered).offer (statusFrame t)).take
          ∧ t.dose = (if s.cycle.state.filtering then doseHeld s.dose else s.dose)
          ∧ t.pins = s.pins ∧ t.inputs = s.inputs ∧ t.scan = s.scan ∧ t.peers = s.peers ∧ t.req = s.req
          ∧ t.load = s.load)

/-! ### Local controls -/

/-- MANUAL_WASH's rising edge is a WASH_NOW without an answer (R156, R5): OPERATOR and WAITING from IN_SERVICE,
OPERATOR in WAITING and CONTEST, nothing elsewhere or in RESTRICTED operation. -/
def Obligations.ManualWashRaisesOperator : Prop :=
  ∀ s : State, s.supplyOk = true → s.inputs.manualWash.level = false →
    let m := s.setInputs { s.inputs with manualWash := .changeTo true }
    (s.restricted = true ∨ s.cycle.state.filtering = false →
      exec .manualWashEdge s = .next (m.setLink s.link.take))
    ∧ (s.restricted = false → s.cycle.state = .inService →
        completes .manualWashEdge s fun t =>
          t = { m with
                cycle := { s.cycle with
                           state := .waiting, due := .operator, waitMinutes := 0, waitSeconds := 0,
                           stepTimer := 0, clearHold := 0, clearRunning := false }
                link := (s.link.offer (statusFrame t)).take })
    ∧ (s.restricted = false → s.cycle.state = .waiting ∨ s.cycle.state = .contest →
        exec .manualWashEdge s =
          .next ((m.setCycle { s.cycle with due := .operator }).setLink s.link.take))

/-- Effective inhibit becoming set by the key, and TANK_LOW asserting, end a contest as a loss that is not counted
(R94, R148, R157); elsewhere the key and the tank change their level alone at that event. -/
def Obligations.KeyAndTankEndAContestUncounted : Prop :=
  ∀ (s : State), s.supplyOk = true →
    let key := fun (level : Bool) => s.setInputs { s.inputs with inhibitKey := .changeTo level }
    let tank := s.setInputs { s.inputs with tankLow := .changeTo true }
    let withdrawn := s.link.offer (claimFrame s none [3, 0, 0, 1])
    (s.inputs.inhibitKey.level = false → s.req.inhibitFlag = false → s.cycle.state = .contest →
      s.arb.claim.isIntent = true →
      completes (.inhibitKeyChange true) s (contestOver s.arb.contestsLost withdrawn (key true)))
    ∧ (s.inputs.inhibitKey.level = false → s.req.inhibitFlag = true ∨ s.cycle.state ≠ .contest →
        exec (.inhibitKeyChange true) s = .next ((key true).setLink s.link.take))
    ∧ (s.inputs.inhibitKey.level = true →
        exec (.inhibitKeyChange false) s = .next ((key false).setLink s.link.take))
    ∧ (s.inputs.tankLow.level = false → s.cycle.state = .contest → s.arb.claim.isIntent = true →
        completes .tankLowAssert s (contestOver s.arb.contestsLost withdrawn tank))
    ∧ (s.inputs.tankLow.level = false → s.cycle.state ≠ .contest → s.cycle.state.washStep = false →
        exec .tankLowAssert s = .next (tank.setLink s.link.take))

/-- A feedback closes the oldest window and ends the run of misses (R124); every other change of an input reaches
its level alone (R155). -/
def Obligations.FeedbackAndLevelChanges : Prop :=
  ∀ (i : DiscreteInput) (level : Bool) (s : State), s.supplyOk = true →
    (s.inputs.doseFb.level = false →
      completes .doseFbEdge s fun t =>
        t = { s with
              inputs := { s.inputs with doseFb := .changeTo true }
              dose :=
                if s.dose.windows = [] then s.dose
                else { s.dose with windows := s.dose.windows.drop 1, missCount := 0 }
              link := s.link.take })
    ∧ (otherInputChange i level = true → level ≠ (s.inputs.get i).level →
        exec (.debouncedInputChange i level) s =
          .next ((s.setInputs (s.inputs.set i { raw := level, level := level, run := 0 })).setLink s.link.take))

/-! ### Arrivals -/

/-- A CLAIM of a peer sets the claim of its entry, which is created where there is none and keeps its status part;
a RELEASE leaves no entry without a status part (R71, R74 to R76, R79). No other entry changes. -/
def Obligations.ClaimArrivalsSetThePeersClaim : Prop :=
  ∀ (g : BitVec 3) (p : BitVec 5) (u f x : Byte) (q : Nat) (s : State), s.supplyOk = true →
    p.toNat ≠ s.load.station → q ≠ p.toNat →
    let old := findEntry p.toNat s.peers.entries
    let kept := fun (claim : PeerClaim) =>
      ({ station := p.toNat, group := g.toNat, status := old.bind PeerEntry.status, claim := claim,
         claimAge := 0 } : PeerEntry)
    let after := fun (e : Option PeerEntry) (t : State) =>
      findEntry p.toNat t.peers.entries = e ∧ findEntry q t.peers.entries = findEntry q s.peers.entries
      ∧ t.peers.statusLapses = s.peers.statusLapses ∧ t.peers.claimLapses = s.peers.claimLapses
      ∧ t.peers.duplicate = s.peers.duplicate ∧ t.pins = s.pins ∧ t.inputs = s.inputs ∧ t.scan = s.scan
      ∧ t.req = s.req ∧ t.load = s.load
    (f ≠ 0 →
      completes (.claimIntentArrival g p [1, u, f, x]) s (after (some (kept (.intent u.toNat f.toNat))))
      ∧ (noBothAsserted s = true →
          completes (.claimHoldArrival g p [2, u, f, x]) s (after (some (kept (.hold u.toNat f.toNat))))))
    ∧ (x.toNat ≤ 2 →
        completes (.claimReleaseArrival g p [3, u, f, x]) s
          (after (if (old.bind PeerEntry.status).isSome then some (kept .none) else none)))

/-- A STATUS of a peer sets the status part of its entry and not its claim (R72). A READING of the own group is
adopted, or ignored and counted, by the tables of R112 and R113, and keeps the group of an existing entry (R71). -/
def Obligations.StatusAndReadingArrivals : Prop :=
  ∀ (g : BitVec 3) (p : BitVec 5) (b0 b1 b2 b3 b4 b5 b6 b7 : Byte) (code : CycleState) (a : AnalyserState)
    (s : State), s.supplyOk = true → p.toNat ≠ s.load.station →
    let old := findEntry p.toNat s.peers.entries
    (CycleState.ofCode b0.toNat = some code →
      completes (.statusArrival g p [b0, b1, b2, b3, b4, b5, b6, b7]) s fun t =>
        findEntry p.toNat t.peers.entries =
          some { station := p.toNat, group := g.toNat, status := some { code := code, age := 0 },
                 claim := (old.map PeerEntry.claim).getD .none,
                 claimAge := (old.map PeerEntry.claimAge).getD 0 }
        ∧ t.dose = s.dose ∧ t.valves = s.valves ∧ t.scan = s.scan ∧ t.req = s.req)
    ∧ (b4.toNat = a.code → g.toNat = s.load.group →
        completes (.readingArrival g p [b0, b1, b2, b3, b4]) s fun t =>
          t.dose =
            (if s.sampleHolder = false ∧ (s.dose.fresh = false ∨ s.dose.source = some p.toNat) then
              { s.dose with
                source := some p.toNat, readingF := b0.toNat + 256 * b1.toNat,
                readingPh := b2.toNat + 256 * b3.toNat, analyser := a, readingAge := 0, conflict := false }
             else { s.dose with duplicateReadings := satInc s.dose.duplicateReadings, conflict := true })
          ∧ findEntry p.toNat t.peers.entries = old.map (fun e => { e with group := g.toNat })
          ∧ t.valves = s.valves ∧ t.scan = s.scan ∧ t.req = s.req)

/-- A CLAIM, READING or STATUS that bears the own number sets the duplicate flag and does nothing else (R82, R130
step 4). The frames that the filter ignores (R130 steps 1 to 3, 5 and 6) change nothing and count nothing. -/
def Obligations.FramesThatAreNotPassedOn : Prop :=
  ∀ (g : BitVec 3) (p : BitVec 5) (data : List Byte) (f : RxFrame) (s : State), s.supplyOk = true →
    let flagged : Host.Outcome State Fault Refusal :=
      .next ((s.setPeers { s.peers with duplicate := true }).setLink s.link.afterArrival.take)
    (p.toNat = s.load.station →
      exec (.claimIntentArrival g p data) s = flagged ∧ exec (.claimHoldArrival g p data) s = flagged
      ∧ exec (.claimReleaseArrival g p data) s = flagged ∧ exec (.statusArrival g p data) s = flagged
      ∧ exec (.readingArrival g p data) s = flagged)
    ∧ (f.extended = true ∨ f.dataRequest = true ∨ 4 ≤ kindOf f.ident
        ∨ (kindOf f.ident = 1 ∧ stationOf f.ident ≠ s.load.station ∧ groupOf f.ident ≠ s.load.group)
        ∨ (kindOf f.ident = 3 ∧ stationOf f.ident ≠ s.load.station) →
      exec (.answerArrival f) s = .next (s.setLink s.link.afterArrival.take))

/-- A frame of a wrong length or with a field that is not valid is dropped and counted as a format error (R131);
a fault in a frame of another node is counted as a signal error (R132); one seen while the own frame is being sent, or
in the frame to which it has just lost the medium, is a failure of the own frame (R135). -/
def Obligations.ReceiveErrorsAreCounted : Prop :=
  ∀ (g : BitVec 3) (p : BitVec 5) (data : List Byte) (s : State), s.supplyOk = true →
    p.toNat ≠ s.load.station →
    let counted := fun (l : Link) =>
      { l with formatErrors := satInc l.formatErrors, firstError := firstOf l.firstError .format }
    let dropped : Host.Outcome State Fault Refusal := .next (s.setLink (counted s.link.afterArrival).take)
    ((data.length ≠ 4 ∨ byteAt data 0 = 0 ∨ 3 < byteAt data 0
        ∨ (byteAt data 0 ≤ 2 ∧ byteAt data 2 = 0) ∨ (byteAt data 0 = 3 ∧ 2 < byteAt data 3)) →
      exec (.claimIntentArrival g p data) s = dropped ∧ exec (.claimHoldArrival g p data) s = dropped
      ∧ exec (.claimReleaseArrival g p data) s = dropped)
    ∧ (data.length ≠ 8 ∨ byteAt data 0 = 0 ∨ 13 < byteAt data 0 → exec (.statusArrival g p data) s = dropped)
    ∧ (g.toNat = s.load.group → data.length ≠ 5 ∨ 1 < byteAt data 4 →
        exec (.readingArrival g p data) s = dropped)
    ∧ (s.link.attempt = .idle →
        exec .rxSignalError s =
          .next (s.setLink
            ({ s.link with
               signalErrors := satInc s.link.signalErrors,
               firstError := firstOf s.link.firstError .signal }).take))
    ∧ (s.link.inTx.isSome = true → s.link.attempt ≠ .idle → exec .rxSignalError s = exec .txFailure s)

/-- The three lapses of a peer's entry (R73, R77, R78): the part that lapses goes, the counter of the status and
the hold lapse counts, and an entry left empty is removed (R79). -/
def Obligations.LapsesRemoveWhatIsSilent : Prop :=
  ∀ (p : BitVec 5) (e : PeerEntry) (s : State), s.supplyOk = true →
    findEntry p.toNat s.peers.entries = some e → e.station = p.toNat →
    let noClaim : Option PeerEntry :=
      if e.status.isSome then some { e with claim := .none, claimAge := 0 } else none
    (e.statusDue = true →
      completes (.statusLapse p) s fun t =>
        findEntry p.toNat t.peers.entries = (if e.claim = .none then none else some { e with status := none })
        ∧ t.peers.statusLapses = satInc s.peers.statusLapses ∧ t.peers.claimLapses = s.peers.claimLapses
        ∧ t.dose = s.dose ∧ t.valves = s.valves)
    ∧ (e.claim.isIntent = true → 300 ≤ e.claimAge →
        completes (.intentLapse p) s fun t =>
          findEntry p.toNat t.peers.entries = noClaim
          ∧ t.peers.statusLapses = s.peers.statusLapses ∧ t.peers.claimLapses = s.peers.claimLapses
          ∧ t.dose = s.dose ∧ t.valves = s.valves)
    ∧ (e.claim.isHold = true → s.cfg.claimLapse * 100 ≤ e.claimAge →
        completes (.holdLapse p) s fun t =>
          findEntry p.toNat t.peers.entries = noClaim
          ∧ t.peers.claimLapses = satInc s.peers.claimLapses ∧ t.peers.statusLapses = s.peers.statusLapses
          ∧ t.dose = s.dose ∧ t.valves = s.valves)

/-! ### The drain -/

/-- The urgency is formed within the band of the due reason: base to base + 63, the base RUNTIME 0, LOADING 64,
TURBIDITY 128 or OPERATOR 192 (R87). A peer with a claim has precedence where its
urgency is greater, or equal from a lower station number; this station's urgency is the formed one with its claim
NONE and the frozen one otherwise; the relation is strict (R88). A peer counts as filtering as R80 says. The
admission test passes where the flow part does, over W, every HOLD and the INTENTs with precedence (R89), and the group
part, over the own group's filtering peers but for those INTENTs (R90). The conditions for a new intent are the seven
of R91. The overlap test counts every HOLD, and every filtering peer of the own group (R106). -/
def Obligations.UrgencyAndPrecedence : Prop :=
  (∀ s : State, formedUrgency s =
    min (s.cycle.due.base + 63) (s.cycle.due.base + s.scan.ls.getD 0 * 63 / 1000 + s.cycle.waitMinutes)
    ∧ s.cycle.due.base ≤ formedUrgency s ∧ formedUrgency s ≤ s.cycle.due.base + 63 ∧ formedUrgency s ≤ 255)
  ∧ (∀ (s : State) (base : Nat),
      (s.cycle.due = .runtime ∧ base = 0) ∨ (s.cycle.due = .loading ∧ base = 64)
        ∨ (s.cycle.due = .turbidity ∧ base = 128) ∨ (s.cycle.due = .operator ∧ base = 192) →
      formedUrgency s = min (base + 63) (base + s.scan.ls.getD 0 * 63 / 1000 + s.cycle.waitMinutes)
      ∧ base ≤ formedUrgency s ∧ formedUrgency s ≤ base + 63)
  ∧ (∀ (s : State) (e : PeerEntry) (u f own : Nat) (phase : ContestPhase),
      (s.arb.claim = .none → ownUrgency s = formedUrgency s)
      ∧ (s.arb.claim = .intent own phase ∨ s.arb.claim = .hold own → ownUrgency s = own)
      ∧ (e.claim = .none → hasPrecedence s e = false)
      ∧ (e.claim = .intent u f ∨ e.claim = .hold u f →
          (hasPrecedence s e = true ↔ ownUrgency s < u ∨ (u = ownUrgency s ∧ e.station < s.load.station))))
  ∧ (∀ (a b : PeerEntry) (ua ub fa fb : Nat), a.claim = .hold ua fa ∨ a.claim = .intent ua fa →
      b.claim = .hold ub fb ∨ b.claim = .intent ub fb → a.station ≠ b.station →
      (a.precedes ub b.station = true ↔ b.precedes ua a.station = false))
  ∧ (∀ e : PeerEntry, e.countsAsFiltering = true ↔
      (∃ st, e.status = some st ∧ (st.code = .inService ∨ st.code = .waiting ∨ st.code = .contest))
      ∧ e.claim.isHold = false)
  ∧ (∀ s : State,
      let held := fun (e : PeerEntry) => match e.claim with | .hold _ flow => flow | _ => 0
      let announced := fun (e : PeerEntry) =>
        match e.claim with | .intent _ flow => if hasPrecedence s e = true then flow else 0 | _ => 0
      let expected := fun (e : PeerEntry) => !(e.claim.isIntent && hasPrecedence s e)
      let filtering := s.peers.entries.filter fun e => e.group = s.load.group && e.countsAsFiltering
      (admission s = true ↔
        s.cfg.washFlow + (s.peers.entries.map fun e => held e + announced e).sum ≤ s.cfg.drainCapacity
        ∧ (0 < s.cfg.groupMinimum → s.cfg.groupMinimum ≤ (filtering.filter expected).length))
      ∧ (intentConditions s = true ↔
          s.link.successAge < 400 ∧ s.link.mode ≠ .off ∧ s.arb.backoff = 0
          ∧ (s.req.inhibitFlag = false ∧ s.inputs.inhibitKey.level = false) ∧ s.inputs.tankLow.level = false
          ∧ (s.load.outcome = none ∨ s.load.outcome = some .good) ∧ s.peers.duplicate = false)
      ∧ (overlapPasses s = true ↔
          s.cfg.washFlow + (s.peers.entries.map held).sum ≤ s.cfg.drainCapacity
          ∧ (0 < s.cfg.groupMinimum → s.cfg.groupMinimum ≤ filtering.length)))

/-- At the expiry of the contest window with the admission test passing the contest is won: HOLD at the frozen
urgency, its CLAIM offered, DRAIN_DOWN entered, dosing held (R95, R9, R13, R116). -/
def Obligations.WindowExpiryWinsTheContest : Prop :=
  ∀ (u : Nat) (s : State), s.supplyOk = true → s.cycle.state = .contest → s.arb.claim = .intent u .windowed →
    s.cfg.contestWindow ≤ s.arb.windowTimer → admission s = true → noBothAsserted s = true →
    completes .contestWindowExpiry s fun t =>
      t = { s with
            cycle := { s.cycle with
                       state := .drainDown, stepTimer := 0, clearHold := 0, clearRunning := false,
                       outcome := none, backwashSeconds := 0,
                       confirmed := s.valves.confirmations (stepSet .drainDown) }
            valves := s.valves.command (stepSet .drainDown)
            arb := { s.arb with claim := .hold u, windowTimer := 0, refreshTimer := 0 }
            dose := { s.dose with
                      mode := if s.dose.mode = .fault then .fault else .held
                      dose := 0, interval := none, elapsed := 0, countOwed := false }
            link :=
              ((s.link.offer (claimFrame s none [2, byte u, byte s.cfg.washFlow, 0])).offer (statusFrame t)).take }

/-- What an arrival or a lapse makes of a peer's entry is reported at its event where the arbiter reads it changed: the
entry itself, its group, its state code or its claim (R81). The events are the arrival of an INTENT, a HOLD, a RELEASE
and a STATUS, that of a READING which changes the group, and the lapse of a status, an INTENT and a HOLD. In CONTEST
the admission test is run again: where it fails the contest ends as a loss (R94), and where it passes the contest goes
on as it is. In WAITING with the claim NONE the test is run where the conditions for a new intent hold, and CONTEST is
entered where it passes (R92, R8). Elsewhere a report does nothing, but for an entry into HOLD in a wash step (R106),
and an event that changes nothing of what the arbiter reads gives no report. -/
def Obligations.FailedTestLosesTheContest : Prop :=
  ∀ (g : BitVec 3) (p : BitVec 5) (u f x b0 b1 b2 b3 b4 : Byte) (rest : List Byte) (code : CycleState)
    (a : AnalyserState) (found : PeerEntry) (s : State), s.supplyOk = true →
    let old := findEntry p.toNat s.peers.entries
    let e := entryAt p.toNat g.toNat s.peers.entries
    let heard := s.link.afterArrival
    let cleared := fun (e : PeerEntry) =>
      if e.status.isSome then some { e with claim := .none, claimAge := 0 } else none
    let reported := fun (cmd : Instr) (l : Link) (b : State) (new : Option PeerEntry) (intoHold : Bool) =>
      let m := b.setPeers { b.peers with entries := storeEntry p.toNat new s.peers.entries }
      let enters := s.arb.claim = .none ∧ intentConditions m = true ∧ admission m = true
      (old.map PeerEntry.visible = new.map PeerEntry.visible → exec cmd s = .next (m.setLink l.take))
      ∧ (s.cycle.state ≠ .contest → s.cycle.state ≠ .waiting →
          s.cycle.state.washStep = false ∨ intoHold = false →
          exec cmd s = .next (m.setLink l.take))
      ∧ (old.map PeerEntry.visible ≠ new.map PeerEntry.visible →
          (s.cycle.state = .contest → s.arb.claim.isIntent = true →
            (admission m = false →
              completes cmd s (contestOver (satInc s.arb.contestsLost) (withdrawnLink s l) m))
            ∧ (admission m = true → exec cmd s = .next (m.setLink l.take)))
          ∧ (s.cycle.state = .waiting →
              (enters → completes cmd s (contestEntered l m))
              ∧ (¬ enters → exec cmd s = .next (m.setLink l.take))))
    (p.toNat ≠ s.load.station →
      (f ≠ 0 →
        reported (.claimIntentArrival g p [1, u, f, x]) heard s (some (e.takeIntent u.toNat f.toNat)) false
        ∧ reported (.claimHoldArrival g p [2, u, f, x]) heard s (some (e.takeHold u.toNat f.toNat))
            (!e.claim.isHold))
      ∧ (x.toNat ≤ 2 → reported (.claimReleaseArrival g p [3, u, f, x]) heard s (cleared e) false)
      ∧ (CycleState.ofCode u.toNat = some code → rest.length = 7 →
          reported (.statusArrival g p (u :: rest)) heard s (some (e.takeStatus code)) false)
      ∧ (b4.toNat = a.code → g.toNat = s.load.group → old = some found →
          reported (.readingArrival g p [b0, b1, b2, b3, b4]) heard
            (s.setDose
              (if s.sampleHolder = false ∧ (s.dose.fresh = false ∨ s.dose.source = some p.toNat) then
                { s.dose with
                  source := some p.toNat, readingF := b0.toNat + 256 * b1.toNat,
                  readingPh := b2.toNat + 256 * b3.toNat, analyser := a, readingAge := 0, conflict := false }
               else { s.dose with duplicateReadings := satInc s.dose.duplicateReadings, conflict := true }))
            (some { found with group := g.toNat }) false))
    ∧ (old = some found →
        (found.statusDue = true →
          reported (.statusLapse p) s.link (s.setPeers { s.peers with statusLapses := satInc s.peers.statusLapses })
            (if found.claim = .none then none else some { found with status := none }) false)
        ∧ (found.claim.isIntent = true → 300 ≤ found.claimAge →
            reported (.intentLapse p) s.link s (cleared found) false)
        ∧ (found.claim.isHold = true → s.cfg.claimLapse * 100 ≤ found.claimAge →
            reported (.holdLapse p) s.link
              (s.setPeers { s.peers with claimLapses := satInc s.peers.claimLapses }) (cleared found) false))

/-- A peer's entry into HOLD during this station's wash that fails the overlap test is counted, and yielded to in
DRAIN_DOWN and AIR_SCOUR where the peer has precedence (R106, R107, R19); where every channel still stands at its
SERVICE switch, the wash yielded is completed at that event (R2, R22). -/
def Obligations.OverlapIsCountedAndYieldedTo : Prop :=
  ∀ (g : BitVec 3) (p : BitVec 5) (u f x : Byte) (own : Nat) (s : State), s.supplyOk = true →
    s.cycle.state.washStep = true → s.arb.claim = .hold own → p.toNat ≠ s.load.station → f ≠ 0 →
    let old := entryAt p.toNat g.toNat s.peers.entries
    let e := old.takeHold u.toNat f.toNat
    let m := s.setPeers { s.peers with entries := putEntry e s.peers.entries }
    let n := m.setArb { s.arb with overlaps := satInc s.arb.overlaps }
    let ahead := own < u.toNat ∨ (u.toNat = own ∧ p.toNat < s.load.station)
    let before := s.cycle.state = .drainDown ∨ s.cycle.state = .airScour
    old.claim.isHold = false →
    (overlapPasses m = true →
      exec (.claimHoldArrival g p [2, u, f, x]) s = .next (m.setLink s.link.afterArrival.take))
    ∧ (overlapPasses m = false → ¬ (before ∧ ahead) →
        exec (.claimHoldArrival g p [2, u, f, x]) s = .next (n.setLink s.link.afterArrival.take))
    ∧ (overlapPasses m = false → before → ahead → noBothAsserted s = true → standsAt serviceSet s = false →
        completes (.claimHoldArrival g p [2, u, f, x]) s
          (returningEntered s.link.afterArrival (cutShortAs .yielded n)))
    ∧ (overlapPasses m = false → before → ahead → standsAt serviceSet s = true →
        completes (.claimHoldArrival g p [2, u, f, x]) s
          (cutShortAtOnce .yielded (releasedLink s s.link.afterArrival) n))

/-- The back-off ends with nothing else done at that tick (R98); at the refresh timer's 200 a HOLD is offered again
with the frozen urgency and W (R99). -/
def Obligations.BackoffEndsAndHoldIsRefreshed : Prop :=
  ∀ (u : Nat) (s : State), s.supplyOk = true →
    (s.cycle.state = .waiting → s.arb.backoff = 1 →
      exec .backoffEnd s = .next ((s.setArb { s.arb with backoff := 0 }).setLink s.link.take))
    ∧ (s.arb.claim = .hold u → 200 ≤ s.arb.refreshTimer →
        exec .holdRefresh s =
          .next ((s.setArb { s.arb with refreshTimer := 0 }).setLink
            (s.link.offer (claimFrame s none [2, byte u, byte s.cfg.washFlow, 0])).take))

/-! ### Transmission -/

/-- The start of an attempt, the loss of the medium, the end of an OFF period and the lapse of the connected test
(R134, R135, R139, R140). That a loss is taken whether or not an attempt was told to have started is the model's choice
(log 14). -/
def Obligations.LinkEventsOfNoOwner : Prop :=
  ∀ (f : TxFrame) (s : State), s.supplyOk = true →
    (s.link.inTx = some f → s.link.attempt = .idle →
      exec .txAttemptStart s = .next (s.setLink { s.link with attempt := .sending }))
    ∧ (s.link.inTx = some f →
      exec .lossOfTheMedium s = .next (s.setLink { s.link with attempt := .lost }))
    ∧ (s.link.mode = .off → 100 ≤ s.link.offTimer →
        exec .offPeriodEnd s =
          .next (s.setLink ({ s.link with mode := .active, tally := 0, offTimer := 0 }).take))
    ∧ (s.link.successAge = 399 →
        exec .connectedLapse s = .next (s.setLink ({ s.link with successAge := 400 }).take))

/-- A failure of the frame in transmission: counted, and the tally raised by 8 with the same frame kept (R135,
R137); or the link OFF with everything dropped, a contest over without a RELEASE and a wash step cut short
(R138, R11, R18, R96, R100), with the wash completed at that event where every channel still stands at its SERVICE
switch (R2, R22). -/
def Obligations.TransmitFailureRaisesTheTallyOrGoesOff : Prop :=
  ∀ (f : TxFrame) (s : State), s.supplyOk = true → s.link.inTx = some f →
    let counted :=
      { s.link with
        txFailures := satInc s.link.txFailures, firstError := firstOf s.link.firstError .transmit,
        attempt := .idle }
    let off :=
      { counted with
        mode := .off, tally := 255, offTimer := 0, inTx := none, claim := none, reading := none,
        status := none, answers := [], linkOffs := satInc s.link.linkOffs }
    (s.link.tally + 8 ≤ 255 →
      exec .txFailure s =
        .next (s.setLink
          { counted with
            tally := s.link.tally + 8
            mode := if 128 ≤ s.link.tally + 8 then .cautious else .active }))
    ∧ (255 < s.link.tally + 8 → s.req.pendingRestart = false →
        (s.cycle.state.washStep = false → s.cycle.state ≠ .contest →
          exec .txFailure s = .next (s.setLink off))
        ∧ (s.cycle.state = .contest → s.arb.claim.isIntent = true →
            completes .txFailure s (contestOver s.arb.contestsLost off s))
        ∧ (s.cycle.state.washStep = true → noBothAsserted s = true → standsAt serviceSet s = false →
            completes .txFailure s (returningEntered off (cutShortAs .cutShortLink s)))
        ∧ (s.cycle.state.washStep = true → standsAt serviceSet s = true →
            completes .txFailure s (cutShortAtOnce .cutShortLink off s)))

/-- A completion lowers the tally by 1, sets the success age to 0 and takes the next frame (R136, R137); that of the
INTENT last offered starts the contest window (R93). -/
def Obligations.CompletionLowersTheTallyAndStartsTheWindow : Prop :=
  ∀ (f : TxFrame) (s : State), s.supplyOk = true → s.link.inTx = some f → f.kind ≠ .answer true →
    let l :=
      ({ s.link with
         tally := s.link.tally - 1
         mode := if 128 ≤ s.link.tally - 1 then .cautious else .active
         successAge := 0, inTx := none, attempt := .idle } : Link).take
    completes .txCompletion s fun t =>
      t = { s with link := l, arb := t.arb }
      ∧ t.arb =
          (if s.arb.claim = .intent (ownUrgency s) .pending ∧ f.kind = .claim (some s.arb.intentNumber) then
            { s.arb with claim := .intent (ownUrgency s) .windowed }
           else s.arb)

/-! ### The metering pump -/

/-- A stroke, the end of its pulse, a miss and a reading that goes stale (R119, R122 to R124, R114). The miss count is
at most 3, which is part of the dosing law. -/
def Obligations.PumpEvents : Prop :=
  ∀ (i : Nat) (s : State), s.supplyOk = true →
    (s.dose.mode = .base ∨ s.dose.mode = .trimmed → s.dose.interval = some i → i ≤ s.dose.elapsed →
      exec .stroke s =
        .next ((s.setDose
          { s.dose with
            elapsed := 0, countOwed := false, pulse := s.cfg.strokeWidth
            strokeCount := (s.dose.strokeCount + 1) % 65536
            windows := s.dose.windows ++ [0] }).setLink s.link.take))
    ∧ (s.dose.pulse = 1 →
        exec .pulseEnd s = .next ((s.setDose { s.dose with pulse := 0 }).setLink s.link.take))
    ∧ (s.dose.missDue = true → s.dose.missCount ≤ 3 →
        exec .feedbackMiss s =
          .next ((s.setDose
            (if s.dose.missCount = 2 ∨ s.dose.missCount = 3 then
              (if s.dose.faultLatch then { s.dose with windows := s.dose.windows.drop 1, missCount := 3 }
               else { s.dose with
                      windows := s.dose.windows.drop 1, missCount := 3, faultLatch := true, mode := .fault, dose := 0,
                      interval := none, elapsed := 0, countOwed := false })
             else { s.dose with windows := s.dose.windows.drop 1, missCount := incTo 3 s.dose.missCount })).setLink
            s.link.take))
    ∧ (s.sampleHolder = false → s.dose.readingAge = 1999 →
        exec .readingStale s = .next ((s.setDose { s.dose with readingAge := 2000 }).setLink s.link.take))

/-! ### Requests -/

/-- The steps of R144 that carry nothing out: STARTING, four ANSWERs waiting (R146), an unknown code, WASH_NOW in
RESTRICTED operation, a state that does not take the request, an argument out of range; and a request for another
station. Each leaves every block as it was but for its ANSWER or its count. -/
def Obligations.RequestsNotCarriedOut : Prop :=
  ∀ (c : Instr) (r : RequestRow) (s : State), s.supplyOk = true → requestRow c = some r →
    let st := s.cycle.state
    let refusedState :=
      (r.code = 1 ∧ st.filtering = false)
      ∨ (r.code = 2 ∧ st ≠ .waiting ∧ st ≠ .contest ∧ st.washStep = false)
      ∨ (r.code = 5 ∧ st ≠ .inService ∧ st ≠ .waiting) ∨ (r.code = 6 ∧ st ≠ .isolated)
      ∨ (r.code = 7 ∧ s.dose.mode ≠ .fault)
    (r.target ≠ s.load.station ∨ st = .starting → exec c s = .next (s.setLink s.link.afterArrival.take))
    ∧ (r.target = s.load.station → st ≠ .starting → 4 ≤ s.link.answers.length →
        exec c s =
          .next ((s.setReq { s.req with dropped := satInc s.req.dropped }).setLink s.link.afterArrival.take))
    ∧ (reachesJudgement r s = true →
        (r.code = 0 ∨ 12 < r.code → exec c s = .next (s.setLink (answered r .unknownRequest s).take))
        ∧ (r.code = 1 → s.restricted = true →
            exec c s = .next (s.setLink (answered r .refusedRestricted s).take))
        ∧ (¬ (r.code = 1 ∧ s.restricted = true) → refusedState →
            exec c s = .next (s.setLink (answered r .refusedState s).take))
        ∧ ((r.code = 8 ∧ 2 < r.arg) ∨ (r.code = 10 ∧ 3 < r.arg) →
            exec c s = .next (s.setLink (answered r .refusedArgument s).take)))

/-- READ_COUNTERS and READ_WASH_RECORD answer TAKEN with the bank or the record as it stands at the arrival, and
change nothing they read (R149, R151). -/
def Obligations.ReadsAnswerTheirData : Prop :=
  ∀ (panel : BitVec 3) (target : BitVec 5) (high : BitVec 3) (arg : Byte) (s : State),
    reachesJudgement ⟨panel.toNat, target.toNat, 8, arg.toNat⟩ s = true →
    (arg.toNat ≤ 2 →
      exec (.readCounters panel target high arg) s =
        .next (s.setLink
          (s.link.afterArrival.offer
            (answerFrame panel.toNat 8 .taken
              (if arg.toNat = 0 then
                [byte s.link.formatErrors, byte s.link.signalErrors, byte s.link.txFailures,
                 byte s.link.linkOffs, byte s.link.tally, byte s.link.firstError.code, 0]
               else if arg.toNat = 1 then
                [byte s.peers.claimLapses, byte s.peers.statusLapses, byte s.arb.contestsLost,
                 byte s.arb.overlaps, byte s.req.dropped, byte s.dose.duplicateReadings, 0]
               else bank2 s) false s)).take))
    ∧ (arg.toNat ≤ 3 →
        exec (.readWashRecord panel target high arg) s =
          .next (s.setLink
            (s.link.afterArrival.offer
              (answerFrame panel.toNat 10 .taken
                (match s.cycle.records[arg.toNat]? with
                  | none => [0, 0, 0, 0, 0, 0, 0]
                  | some w =>
                    [byte w.due.code, byte w.outcome.code, byte (w.backwashSeconds % 256),
                     byte (w.backwashSeconds / 256), byte (w.volume % 256), byte (w.volume / 256), 0])
                false s)).take))

/-- The requests that the handler and the dosing unit carry out themselves: INHIBIT_SET outside a contest,
INHIBIT_CLEAR, DOSE_RESET in FAULT, CLEAR_COUNTERS, CLEAR_RESET_CAUSE (R148, R125, R150, R154). -/
def Obligations.HandlerRequestsAreCarriedOut : Prop :=
  ∀ (panel : BitVec 3) (target : BitVec 5) (high : BitVec 3) (arg : Byte) (s : State),
    reachesJudgement ⟨panel.toNat, target.toNat, 0, arg.toNat⟩ s = true →
    let sent := fun (code : Nat) (t : State) =>
      (t.link.afterArrival.offer (answerFrame panel.toNat code .taken zeroData false s)).take
    let flagged := s.setReq { s.req with inhibitFlag := true }
    (s.inhibited = true ∨ s.cycle.state ≠ .contest →
      exec (.inhibitSet panel target high arg) s = .next (flagged.setLink (sent 3 s)))
    ∧ (s.inhibited = false → s.cycle.state = .contest → s.arb.claim.isIntent = true →
        completes (.inhibitSet panel target high arg) s
          (contestOver s.arb.contestsLost
            ((s.link.afterArrival.offer (claimFrame s none [3, 0, 0, 1])).offer
              (answerFrame panel.toNat 3 .taken zeroData false s)) flagged))
    ∧ exec (.inhibitClear panel target high arg) s =
        .next ((s.setReq { s.req with inhibitFlag := false }).setLink (sent 4 s))
    ∧ (s.dose.mode = .fault →
        exec (.doseReset panel target high arg) s =
          .next ((s.setDose
            { s.dose with faultLatch := false, missCount := 0, windows := [], mode := .held }).setLink (sent 7 s)))
    ∧ exec (.clearResetCause panel target high arg) s =
        .next ((s.setReq { s.req with resetCause := .none }).setLink (sent 12 s))
    ∧ completes (.clearCounters panel target high arg) s fun t =>
        let cleared :=
          s.setLink
            { s.link with
              formatErrors := 0, signalErrors := 0, txFailures := 0, linkOffs := 0, firstError := .none }
        t = { s with
              link := sent 9 cleared
              peers := { s.peers with statusLapses := 0, claimLapses := 0 }
              arb := { s.arb with contestsLost := 0, overlaps := 0 }
              req := { s.req with dropped := 0 }
              dose := { s.dose with duplicateReadings := 0 } }

/-- The requests that the cycle controller carries out: WASH_NOW (R5), ABANDON_WASH (R12, R18), ISOLATE (R25) and
RETURN (R26). Each is answered TAKEN after it has been carried out. A wash abandoned while every channel still stands
at its SERVICE switch is completed at that event (R2, R22), and so is the recovery of a RETURN (R24, R104). -/
def Obligations.CycleRequestsAreCarriedOut : Prop :=
  ∀ (panel : BitVec 3) (target : BitVec 5) (high : BitVec 3) (arg : Byte) (s : State),
    reachesJudgement ⟨panel.toNat, target.toNat, 0, arg.toNat⟩ s = true →
    let answer := fun (l : Link) (code : Nat) => l.offer (answerFrame panel.toNat code .taken zeroData false s)
    let heard := s.link.afterArrival
    let base := { s.cycle with stepTimer := 0, clearHold := 0, clearRunning := false }
    (s.restricted = false → s.cycle.state = .inService →
      completes (.washNow panel target high arg) s fun t =>
        t = { s with
              cycle := { base with state := .waiting, due := .operator, waitMinutes := 0, waitSeconds := 0 }
              link := ((answer heard 1).offer (statusFrame t)).take })
    ∧ (s.restricted = false → s.cycle.state = .waiting ∨ s.cycle.state = .contest →
        exec (.washNow panel target high arg) s =
          .next ((s.setCycle { s.cycle with due := .operator }).setLink (answer heard 1).take))
    ∧ (s.cycle.state = .waiting →
        completes (.abandonWash panel target high arg) s fun t =>
          t = { s with
                cycle := { base with state := .inService, due := .none, waitMinutes := 0, waitSeconds := 0 }
                arb := { s.arb with backoff := 0 }
                link := ((answer heard 2).offer (statusFrame t)).take })
    ∧ (s.cycle.state = .contest → s.arb.claim.isIntent = true →
        completes (.abandonWash panel target high arg) s fun t =>
          t = { s with
                cycle := { base with state := .inService, due := .none, waitMinutes := 0, waitSeconds := 0 }
                arb := { s.arb with claim := .none, windowTimer := 0 }
                link :=
                  ((answer (heard.offer (claimFrame s none [3, 0, 0, 1])) 2).offer (statusFrame t)).take })
    ∧ (s.cycle.state.washStep = true → noBothAsserted s = true → standsAt serviceSet s = false →
        completes (.abandonWash panel target high arg) s
          (returningEntered (answer heard 2) (cutShortAs .abandoned s)))
    ∧ (s.cycle.state.washStep = true → standsAt serviceSet s = true →
        completes (.abandonWash panel target high arg) s
          (cutShortAtOnce .abandoned (answer (releasedLink s heard) 2) s))
    ∧ (s.cycle.state = .inService ∨ s.cycle.state = .waiting → noBothAsserted s = true →
        s.valves.wasteClosed = true → s.valves.washOut.atLimit .closed = true →
        s.valves.rinse.atLimit .closed = true →
        completes (.isolate panel target high arg) s fun t =>
          t = { s with
                cycle := { base with
                           state := if standsAt allClosedSet s then .isolated else .isolating
                           due := .none, waitMinutes := 0, waitSeconds := 0,
                           confirmed := s.valves.confirmations allClosedSet }
                valves := s.valves.command allClosedSet
                arb := { s.arb with backoff := if s.cycle.state = .waiting then 0 else s.arb.backoff }
                dose := { s.dose with
                          mode := if s.dose.mode = .fault then .fault else .held
                          dose := 0, interval := none, elapsed := 0, countOwed := false }
                link := ((answer heard 5).offer (statusFrame t)).take })
    ∧ (s.cycle.state = .isolated → noBothAsserted s = true → closedStand s = true →
        (standsAt serviceSet s = false →
          completes (.returnToService panel target high arg) s fun t =>
            t = { s with
                  cycle := { base with state := .recovering, confirmed := s.valves.confirmations serviceSet }
                  valves := s.valves.command serviceSet
                  link := ((answer heard 6).offer (statusFrame t)).take })
        ∧ (standsAt serviceSet s = true →
            completes (.returnToService panel target high arg) s fun t =>
              let held := s.arb.claim.isHold = true
              t = { s with
                    cycle := { base with
                               state := if s.cycle.due = .none then .inService else .waiting
                               confirmed := s.valves.confirmations serviceSet }
                    valves := s.valves.command serviceSet
                    arb := if held then { s.arb with claim := .none, refreshTimer := 0 } else s.arb
                    link :=
                      ((answer (if held then releasedLink s heard else heard) 6).offer (statusFrame t)).take }))

/-- RESTART sets the pending-restart mark and answers TAKEN with a marked ANSWER; with the link OFF the restart is
carried out at the arrival (R152). A request of unknown code is answered UNKNOWN_REQUEST (R144). What the reset leaves
in the items that no rule gives a value (the configuration, D0, Qmin_abs and the clamped count before the load settles,
the pins) is the model's choice (log 9, log 6). -/
def Obligations.RestartIsAnsweredOrCarriedOut : Prop :=
  ∀ (panel : BitVec 3) (target : BitVec 5) (high : BitVec 3) (code : BitVec 5) (arg : Byte) (s : State),
    reachesJudgement ⟨panel.toNat, target.toNat, 11, arg.toNat⟩ s = true →
    (s.link.mode ≠ .off →
      exec (.restart panel target high arg) s =
        .next ((s.setReq { s.req with pendingRestart := true }).setLink
          (s.link.afterArrival.offer (answerFrame panel.toNat 11 .taken zeroData true s)).take))
    ∧ (s.link.mode = .off →
        exec (.restart panel target high arg) s = .next (restartedAs .request s.pins.straps s))
    ∧ (unknownCode code = true →
        exec (.unknownRequest panel target high code arg) s =
          .next (s.setLink
            (s.link.afterArrival.offer
              (answerFrame panel.toNat code.toNat .unknownRequest zeroData false s)).take))

/-! ### The laws -/

/-- The state after reset has every law. -/
def Obligations.ResetStateHasEveryLaw : Prop :=
  peerLaw State.reset = true ∧ linkLaw State.reset = true ∧ drainLaw State.reset = true
  ∧ cycleLaw State.reset = true ∧ valveLaw State.reset = true ∧ dosingLaw State.reset = true
  ∧ scanLaw State.reset = true ∧ counterLaw State.reset = true

/-- The peer table never holds an entry under the own number, at most one a number, none that R79 removes, and every
claim that is not NONE has a flow of 1-255 (R69, R70, R79): every step keeps it. -/
def Obligations.EveryStepKeepsThePeerTableLaw : Prop :=
  ∀ s t : State, peerLaw s = true → step s = .next t → peerLaw t = true

/-- The transmit queue holds at most one frame a kind and four ANSWERs, nothing while OFF, and nothing waits while
nothing is in transmission (R133, R134); the mode is that of the tally (R137): every step keeps it. -/
def Obligations.EveryStepKeepsTheLinkLaw : Prop :=
  ∀ s t : State, linkLaw s = true → step s = .next t → linkLaw t = true

/-- The claim is INTENT exactly in CONTEST, HOLD through every wash step and RETURNING (R86), and HOLD outside
STARTING whenever a waste valve is not CLOSED (R101): every step keeps it. -/
def Obligations.EveryStepKeepsTheDrainLaw : Prop :=
  ∀ s t : State, drainLaw s = true → step s = .next t → drainLaw t = true

/-- The ranges of the cycle controller (R1, R29, R30), a due reason latched while a wash is wanted (R3), an outcome
from the end of BACKWASH (R15): every step keeps them. -/
def Obligations.EveryStepKeepsTheCycleLaw : Prop :=
  ∀ s t : State, cycleLaw s = true → step s = .next t → cycleLaw t = true

/-- Every channel's record agrees with its state, and outside STARTING a channel with both switches asserted is in
FAULT (R53, R62): every step keeps it. -/
def Obligations.EveryStepKeepsTheValveLaw : Prop :=
  ∀ s t : State, valveLaw s = true → step s = .next t → valveLaw t = true

/-- The pump is paced in a filtering state alone (R116), d and I are absent in HELD and FAULT (R115, R121), and
FAULT is the mode of a set latch (R124, R125): every step keeps it. -/
def Obligations.EveryStepKeepsTheDosingLaw : Prop :=
  ∀ s t : State, dosingLaw s = true → step s = .next t → dosingLaw t = true

/-- The scanner's records, ring, D0 and hold timers keep their ranges (R35, R42, R44, R48, R50), and every saturating
counter stays 0-255: every step keeps both. -/
def Obligations.EveryStepKeepsTheRanges : Prop :=
  ∀ s t : State, step s = .next t →
    (scanLaw s = true → scanLaw t = true) ∧ (counterLaw s = true → counterLaw t = true)
end

