-- ==== Sys2Proof/Laws/State.lean ====
section
/-! SUPPORT. One lemma for each field and each setter of the state, true by rfl, so that no proof unfolds a record
update; and what a second use of a setter does. -/

namespace Sys2Proof.Machine

/-! ### setPins -/

@[simp] theorem State.setPins_pins (s : State) (x : Pins) : (s.setPins x).pins = x := rfl
@[simp] theorem State.setPins_inputs (s : State) (x : Pins) : (s.setPins x).inputs = s.inputs := rfl
@[simp] theorem State.setPins_scan (s : State) (x : Pins) : (s.setPins x).scan = s.scan := rfl
@[simp] theorem State.setPins_cycle (s : State) (x : Pins) : (s.setPins x).cycle = s.cycle := rfl
@[simp] theorem State.setPins_valves (s : State) (x : Pins) : (s.setPins x).valves = s.valves := rfl
@[simp] theorem State.setPins_peers (s : State) (x : Pins) : (s.setPins x).peers = s.peers := rfl
@[simp] theorem State.setPins_arb (s : State) (x : Pins) : (s.setPins x).arb = s.arb := rfl
@[simp] theorem State.setPins_dose (s : State) (x : Pins) : (s.setPins x).dose = s.dose := rfl
@[simp] theorem State.setPins_link (s : State) (x : Pins) : (s.setPins x).link = s.link := rfl
@[simp] theorem State.setPins_req (s : State) (x : Pins) : (s.setPins x).req = s.req := rfl
@[simp] theorem State.setPins_load (s : State) (x : Pins) : (s.setPins x).load = s.load := rfl
@[simp] theorem State.setPins_phase (s : State) (x : Pins) : (s.setPins x).phase = s.phase := rfl
@[simp] theorem State.setPins_supplyOk (s : State) (x : Pins) : (s.setPins x).supplyOk = s.supplyOk := rfl
@[simp] theorem State.setPins_serial (s : State) (x : Pins) : (s.setPins x).serial = s.serial := rfl
@[simp] theorem State.setPins_pending (s : State) (x : Pins) : (s.setPins x).pending = s.pending := rfl
@[simp] theorem State.setPins_setPins (s : State) (x y : Pins) : (s.setPins x).setPins y = s.setPins y := rfl
@[simp] theorem State.setPins_self (s : State) : s.setPins s.pins = s := rfl

/-! ### setInputs -/

@[simp] theorem State.setInputs_pins (s : State) (x : Inputs) : (s.setInputs x).pins = s.pins := rfl
@[simp] theorem State.setInputs_inputs (s : State) (x : Inputs) : (s.setInputs x).inputs = x := rfl
@[simp] theorem State.setInputs_scan (s : State) (x : Inputs) : (s.setInputs x).scan = s.scan := rfl
@[simp] theorem State.setInputs_cycle (s : State) (x : Inputs) : (s.setInputs x).cycle = s.cycle := rfl
@[simp] theorem State.setInputs_valves (s : State) (x : Inputs) : (s.setInputs x).valves = s.valves := rfl
@[simp] theorem State.setInputs_peers (s : State) (x : Inputs) : (s.setInputs x).peers = s.peers := rfl
@[simp] theorem State.setInputs_arb (s : State) (x : Inputs) : (s.setInputs x).arb = s.arb := rfl
@[simp] theorem State.setInputs_dose (s : State) (x : Inputs) : (s.setInputs x).dose = s.dose := rfl
@[simp] theorem State.setInputs_link (s : State) (x : Inputs) : (s.setInputs x).link = s.link := rfl
@[simp] theorem State.setInputs_req (s : State) (x : Inputs) : (s.setInputs x).req = s.req := rfl
@[simp] theorem State.setInputs_load (s : State) (x : Inputs) : (s.setInputs x).load = s.load := rfl
@[simp] theorem State.setInputs_phase (s : State) (x : Inputs) : (s.setInputs x).phase = s.phase := rfl
@[simp] theorem State.setInputs_supplyOk (s : State) (x : Inputs) : (s.setInputs x).supplyOk = s.supplyOk := rfl
@[simp] theorem State.setInputs_serial (s : State) (x : Inputs) : (s.setInputs x).serial = s.serial := rfl
@[simp] theorem State.setInputs_pending (s : State) (x : Inputs) : (s.setInputs x).pending = s.pending := rfl
@[simp] theorem State.setInputs_setInputs (s : State) (x y : Inputs) : (s.setInputs x).setInputs y = s.setInputs y := rfl
@[simp] theorem State.setInputs_self (s : State) : s.setInputs s.inputs = s := rfl

/-! ### setScan -/

@[simp] theorem State.setScan_pins (s : State) (x : Scanner) : (s.setScan x).pins = s.pins := rfl
@[simp] theorem State.setScan_inputs (s : State) (x : Scanner) : (s.setScan x).inputs = s.inputs := rfl
@[simp] theorem State.setScan_scan (s : State) (x : Scanner) : (s.setScan x).scan = x := rfl
@[simp] theorem State.setScan_cycle (s : State) (x : Scanner) : (s.setScan x).cycle = s.cycle := rfl
@[simp] theorem State.setScan_valves (s : State) (x : Scanner) : (s.setScan x).valves = s.valves := rfl
@[simp] theorem State.setScan_peers (s : State) (x : Scanner) : (s.setScan x).peers = s.peers := rfl
@[simp] theorem State.setScan_arb (s : State) (x : Scanner) : (s.setScan x).arb = s.arb := rfl
@[simp] theorem State.setScan_dose (s : State) (x : Scanner) : (s.setScan x).dose = s.dose := rfl
@[simp] theorem State.setScan_link (s : State) (x : Scanner) : (s.setScan x).link = s.link := rfl
@[simp] theorem State.setScan_req (s : State) (x : Scanner) : (s.setScan x).req = s.req := rfl
@[simp] theorem State.setScan_load (s : State) (x : Scanner) : (s.setScan x).load = s.load := rfl
@[simp] theorem State.setScan_phase (s : State) (x : Scanner) : (s.setScan x).phase = s.phase := rfl
@[simp] theorem State.setScan_supplyOk (s : State) (x : Scanner) : (s.setScan x).supplyOk = s.supplyOk := rfl
@[simp] theorem State.setScan_serial (s : State) (x : Scanner) : (s.setScan x).serial = s.serial := rfl
@[simp] theorem State.setScan_pending (s : State) (x : Scanner) : (s.setScan x).pending = s.pending := rfl
@[simp] theorem State.setScan_setScan (s : State) (x y : Scanner) : (s.setScan x).setScan y = s.setScan y := rfl
@[simp] theorem State.setScan_self (s : State) : s.setScan s.scan = s := rfl

/-! ### setCycle -/

@[simp] theorem State.setCycle_pins (s : State) (x : Cycle) : (s.setCycle x).pins = s.pins := rfl
@[simp] theorem State.setCycle_inputs (s : State) (x : Cycle) : (s.setCycle x).inputs = s.inputs := rfl
@[simp] theorem State.setCycle_scan (s : State) (x : Cycle) : (s.setCycle x).scan = s.scan := rfl
@[simp] theorem State.setCycle_cycle (s : State) (x : Cycle) : (s.setCycle x).cycle = x := rfl
@[simp] theorem State.setCycle_valves (s : State) (x : Cycle) : (s.setCycle x).valves = s.valves := rfl
@[simp] theorem State.setCycle_peers (s : State) (x : Cycle) : (s.setCycle x).peers = s.peers := rfl
@[simp] theorem State.setCycle_arb (s : State) (x : Cycle) : (s.setCycle x).arb = s.arb := rfl
@[simp] theorem State.setCycle_dose (s : State) (x : Cycle) : (s.setCycle x).dose = s.dose := rfl
@[simp] theorem State.setCycle_link (s : State) (x : Cycle) : (s.setCycle x).link = s.link := rfl
@[simp] theorem State.setCycle_req (s : State) (x : Cycle) : (s.setCycle x).req = s.req := rfl
@[simp] theorem State.setCycle_load (s : State) (x : Cycle) : (s.setCycle x).load = s.load := rfl
@[simp] theorem State.setCycle_phase (s : State) (x : Cycle) : (s.setCycle x).phase = s.phase := rfl
@[simp] theorem State.setCycle_supplyOk (s : State) (x : Cycle) : (s.setCycle x).supplyOk = s.supplyOk := rfl
@[simp] theorem State.setCycle_serial (s : State) (x : Cycle) : (s.setCycle x).serial = s.serial := rfl
@[simp] theorem State.setCycle_pending (s : State) (x : Cycle) : (s.setCycle x).pending = s.pending := rfl
@[simp] theorem State.setCycle_setCycle (s : State) (x y : Cycle) : (s.setCycle x).setCycle y = s.setCycle y := rfl
@[simp] theorem State.setCycle_self (s : State) : s.setCycle s.cycle = s := rfl

/-! ### setValves -/

@[simp] theorem State.setValves_pins (s : State) (x : Valves) : (s.setValves x).pins = s.pins := rfl
@[simp] theorem State.setValves_inputs (s : State) (x : Valves) : (s.setValves x).inputs = s.inputs := rfl
@[simp] theorem State.setValves_scan (s : State) (x : Valves) : (s.setValves x).scan = s.scan := rfl
@[simp] theorem State.setValves_cycle (s : State) (x : Valves) : (s.setValves x).cycle = s.cycle := rfl
@[simp] theorem State.setValves_valves (s : State) (x : Valves) : (s.setValves x).valves = x := rfl
@[simp] theorem State.setValves_peers (s : State) (x : Valves) : (s.setValves x).peers = s.peers := rfl
@[simp] theorem State.setValves_arb (s : State) (x : Valves) : (s.setValves x).arb = s.arb := rfl
@[simp] theorem State.setValves_dose (s : State) (x : Valves) : (s.setValves x).dose = s.dose := rfl
@[simp] theorem State.setValves_link (s : State) (x : Valves) : (s.setValves x).link = s.link := rfl
@[simp] theorem State.setValves_req (s : State) (x : Valves) : (s.setValves x).req = s.req := rfl
@[simp] theorem State.setValves_load (s : State) (x : Valves) : (s.setValves x).load = s.load := rfl
@[simp] theorem State.setValves_phase (s : State) (x : Valves) : (s.setValves x).phase = s.phase := rfl
@[simp] theorem State.setValves_supplyOk (s : State) (x : Valves) : (s.setValves x).supplyOk = s.supplyOk := rfl
@[simp] theorem State.setValves_serial (s : State) (x : Valves) : (s.setValves x).serial = s.serial := rfl
@[simp] theorem State.setValves_pending (s : State) (x : Valves) : (s.setValves x).pending = s.pending := rfl
@[simp] theorem State.setValves_setValves (s : State) (x y : Valves) : (s.setValves x).setValves y = s.setValves y := rfl
@[simp] theorem State.setValves_self (s : State) : s.setValves s.valves = s := rfl

/-! ### setPeers -/

@[simp] theorem State.setPeers_pins (s : State) (x : PeerTable) : (s.setPeers x).pins = s.pins := rfl
@[simp] theorem State.setPeers_inputs (s : State) (x : PeerTable) : (s.setPeers x).inputs = s.inputs := rfl
@[simp] theorem State.setPeers_scan (s : State) (x : PeerTable) : (s.setPeers x).scan = s.scan := rfl
@[simp] theorem State.setPeers_cycle (s : State) (x : PeerTable) : (s.setPeers x).cycle = s.cycle := rfl
@[simp] theorem State.setPeers_valves (s : State) (x : PeerTable) : (s.setPeers x).valves = s.valves := rfl
@[simp] theorem State.setPeers_peers (s : State) (x : PeerTable) : (s.setPeers x).peers = x := rfl
@[simp] theorem State.setPeers_arb (s : State) (x : PeerTable) : (s.setPeers x).arb = s.arb := rfl
@[simp] theorem State.setPeers_dose (s : State) (x : PeerTable) : (s.setPeers x).dose = s.dose := rfl
@[simp] theorem State.setPeers_link (s : State) (x : PeerTable) : (s.setPeers x).link = s.link := rfl
@[simp] theorem State.setPeers_req (s : State) (x : PeerTable) : (s.setPeers x).req = s.req := rfl
@[simp] theorem State.setPeers_load (s : State) (x : PeerTable) : (s.setPeers x).load = s.load := rfl
@[simp] theorem State.setPeers_phase (s : State) (x : PeerTable) : (s.setPeers x).phase = s.phase := rfl
@[simp] theorem State.setPeers_supplyOk (s : State) (x : PeerTable) : (s.setPeers x).supplyOk = s.supplyOk := rfl
@[simp] theorem State.setPeers_serial (s : State) (x : PeerTable) : (s.setPeers x).serial = s.serial := rfl
@[simp] theorem State.setPeers_pending (s : State) (x : PeerTable) : (s.setPeers x).pending = s.pending := rfl
@[simp] theorem State.setPeers_setPeers (s : State) (x y : PeerTable) : (s.setPeers x).setPeers y = s.setPeers y := rfl
@[simp] theorem State.setPeers_self (s : State) : s.setPeers s.peers = s := rfl

/-! ### setArb -/

@[simp] theorem State.setArb_pins (s : State) (x : Arbiter) : (s.setArb x).pins = s.pins := rfl
@[simp] theorem State.setArb_inputs (s : State) (x : Arbiter) : (s.setArb x).inputs = s.inputs := rfl
@[simp] theorem State.setArb_scan (s : State) (x : Arbiter) : (s.setArb x).scan = s.scan := rfl
@[simp] theorem State.setArb_cycle (s : State) (x : Arbiter) : (s.setArb x).cycle = s.cycle := rfl
@[simp] theorem State.setArb_valves (s : State) (x : Arbiter) : (s.setArb x).valves = s.valves := rfl
@[simp] theorem State.setArb_peers (s : State) (x : Arbiter) : (s.setArb x).peers = s.peers := rfl
@[simp] theorem State.setArb_arb (s : State) (x : Arbiter) : (s.setArb x).arb = x := rfl
@[simp] theorem State.setArb_dose (s : State) (x : Arbiter) : (s.setArb x).dose = s.dose := rfl
@[simp] theorem State.setArb_link (s : State) (x : Arbiter) : (s.setArb x).link = s.link := rfl
@[simp] theorem State.setArb_req (s : State) (x : Arbiter) : (s.setArb x).req = s.req := rfl
@[simp] theorem State.setArb_load (s : State) (x : Arbiter) : (s.setArb x).load = s.load := rfl
@[simp] theorem State.setArb_phase (s : State) (x : Arbiter) : (s.setArb x).phase = s.phase := rfl
@[simp] theorem State.setArb_supplyOk (s : State) (x : Arbiter) : (s.setArb x).supplyOk = s.supplyOk := rfl
@[simp] theorem State.setArb_serial (s : State) (x : Arbiter) : (s.setArb x).serial = s.serial := rfl
@[simp] theorem State.setArb_pending (s : State) (x : Arbiter) : (s.setArb x).pending = s.pending := rfl
@[simp] theorem State.setArb_setArb (s : State) (x y : Arbiter) : (s.setArb x).setArb y = s.setArb y := rfl
@[simp] theorem State.setArb_self (s : State) : s.setArb s.arb = s := rfl

/-! ### setDose -/

@[simp] theorem State.setDose_pins (s : State) (x : Dosing) : (s.setDose x).pins = s.pins := rfl
@[simp] theorem State.setDose_inputs (s : State) (x : Dosing) : (s.setDose x).inputs = s.inputs := rfl
@[simp] theorem State.setDose_scan (s : State) (x : Dosing) : (s.setDose x).scan = s.scan := rfl
@[simp] theorem State.setDose_cycle (s : State) (x : Dosing) : (s.setDose x).cycle = s.cycle := rfl
@[simp] theorem State.setDose_valves (s : State) (x : Dosing) : (s.setDose x).valves = s.valves := rfl
@[simp] theorem State.setDose_peers (s : State) (x : Dosing) : (s.setDose x).peers = s.peers := rfl
@[simp] theorem State.setDose_arb (s : State) (x : Dosing) : (s.setDose x).arb = s.arb := rfl
@[simp] theorem State.setDose_dose (s : State) (x : Dosing) : (s.setDose x).dose = x := rfl
@[simp] theorem State.setDose_link (s : State) (x : Dosing) : (s.setDose x).link = s.link := rfl
@[simp] theorem State.setDose_req (s : State) (x : Dosing) : (s.setDose x).req = s.req := rfl
@[simp] theorem State.setDose_load (s : State) (x : Dosing) : (s.setDose x).load = s.load := rfl
@[simp] theorem State.setDose_phase (s : State) (x : Dosing) : (s.setDose x).phase = s.phase := rfl
@[simp] theorem State.setDose_supplyOk (s : State) (x : Dosing) : (s.setDose x).supplyOk = s.supplyOk := rfl
@[simp] theorem State.setDose_serial (s : State) (x : Dosing) : (s.setDose x).serial = s.serial := rfl
@[simp] theorem State.setDose_pending (s : State) (x : Dosing) : (s.setDose x).pending = s.pending := rfl
@[simp] theorem State.setDose_setDose (s : State) (x y : Dosing) : (s.setDose x).setDose y = s.setDose y := rfl
@[simp] theorem State.setDose_self (s : State) : s.setDose s.dose = s := rfl

/-! ### setLink -/

@[simp] theorem State.setLink_pins (s : State) (x : Link) : (s.setLink x).pins = s.pins := rfl
@[simp] theorem State.setLink_inputs (s : State) (x : Link) : (s.setLink x).inputs = s.inputs := rfl
@[simp] theorem State.setLink_scan (s : State) (x : Link) : (s.setLink x).scan = s.scan := rfl
@[simp] theorem State.setLink_cycle (s : State) (x : Link) : (s.setLink x).cycle = s.cycle := rfl
@[simp] theorem State.setLink_valves (s : State) (x : Link) : (s.setLink x).valves = s.valves := rfl
@[simp] theorem State.setLink_peers (s : State) (x : Link) : (s.setLink x).peers = s.peers := rfl
@[simp] theorem State.setLink_arb (s : State) (x : Link) : (s.setLink x).arb = s.arb := rfl
@[simp] theorem State.setLink_dose (s : State) (x : Link) : (s.setLink x).dose = s.dose := rfl
@[simp] theorem State.setLink_link (s : State) (x : Link) : (s.setLink x).link = x := rfl
@[simp] theorem State.setLink_req (s : State) (x : Link) : (s.setLink x).req = s.req := rfl
@[simp] theorem State.setLink_load (s : State) (x : Link) : (s.setLink x).load = s.load := rfl
@[simp] theorem State.setLink_phase (s : State) (x : Link) : (s.setLink x).phase = s.phase := rfl
@[simp] theorem State.setLink_supplyOk (s : State) (x : Link) : (s.setLink x).supplyOk = s.supplyOk := rfl
@[simp] theorem State.setLink_serial (s : State) (x : Link) : (s.setLink x).serial = s.serial := rfl
@[simp] theorem State.setLink_pending (s : State) (x : Link) : (s.setLink x).pending = s.pending := rfl
@[simp] theorem State.setLink_setLink (s : State) (x y : Link) : (s.setLink x).setLink y = s.setLink y := rfl
@[simp] theorem State.setLink_self (s : State) : s.setLink s.link = s := rfl

/-! ### setReq -/

@[simp] theorem State.setReq_pins (s : State) (x : Requests) : (s.setReq x).pins = s.pins := rfl
@[simp] theorem State.setReq_inputs (s : State) (x : Requests) : (s.setReq x).inputs = s.inputs := rfl
@[simp] theorem State.setReq_scan (s : State) (x : Requests) : (s.setReq x).scan = s.scan := rfl
@[simp] theorem State.setReq_cycle (s : State) (x : Requests) : (s.setReq x).cycle = s.cycle := rfl
@[simp] theorem State.setReq_valves (s : State) (x : Requests) : (s.setReq x).valves = s.valves := rfl
@[simp] theorem State.setReq_peers (s : State) (x : Requests) : (s.setReq x).peers = s.peers := rfl
@[simp] theorem State.setReq_arb (s : State) (x : Requests) : (s.setReq x).arb = s.arb := rfl
@[simp] theorem State.setReq_dose (s : State) (x : Requests) : (s.setReq x).dose = s.dose := rfl
@[simp] theorem State.setReq_link (s : State) (x : Requests) : (s.setReq x).link = s.link := rfl
@[simp] theorem State.setReq_req (s : State) (x : Requests) : (s.setReq x).req = x := rfl
@[simp] theorem State.setReq_load (s : State) (x : Requests) : (s.setReq x).load = s.load := rfl
@[simp] theorem State.setReq_phase (s : State) (x : Requests) : (s.setReq x).phase = s.phase := rfl
@[simp] theorem State.setReq_supplyOk (s : State) (x : Requests) : (s.setReq x).supplyOk = s.supplyOk := rfl
@[simp] theorem State.setReq_serial (s : State) (x : Requests) : (s.setReq x).serial = s.serial := rfl
@[simp] theorem State.setReq_pending (s : State) (x : Requests) : (s.setReq x).pending = s.pending := rfl
@[simp] theorem State.setReq_setReq (s : State) (x y : Requests) : (s.setReq x).setReq y = s.setReq y := rfl
@[simp] theorem State.setReq_self (s : State) : s.setReq s.req = s := rfl

/-! ### setLoad -/

@[simp] theorem State.setLoad_pins (s : State) (x : Loader) : (s.setLoad x).pins = s.pins := rfl
@[simp] theorem State.setLoad_inputs (s : State) (x : Loader) : (s.setLoad x).inputs = s.inputs := rfl
@[simp] theorem State.setLoad_scan (s : State) (x : Loader) : (s.setLoad x).scan = s.scan := rfl
@[simp] theorem State.setLoad_cycle (s : State) (x : Loader) : (s.setLoad x).cycle = s.cycle := rfl
@[simp] theorem State.setLoad_valves (s : State) (x : Loader) : (s.setLoad x).valves = s.valves := rfl
@[simp] theorem State.setLoad_peers (s : State) (x : Loader) : (s.setLoad x).peers = s.peers := rfl
@[simp] theorem State.setLoad_arb (s : State) (x : Loader) : (s.setLoad x).arb = s.arb := rfl
@[simp] theorem State.setLoad_dose (s : State) (x : Loader) : (s.setLoad x).dose = s.dose := rfl
@[simp] theorem State.setLoad_link (s : State) (x : Loader) : (s.setLoad x).link = s.link := rfl
@[simp] theorem State.setLoad_req (s : State) (x : Loader) : (s.setLoad x).req = s.req := rfl
@[simp] theorem State.setLoad_load (s : State) (x : Loader) : (s.setLoad x).load = x := rfl
@[simp] theorem State.setLoad_phase (s : State) (x : Loader) : (s.setLoad x).phase = s.phase := rfl
@[simp] theorem State.setLoad_supplyOk (s : State) (x : Loader) : (s.setLoad x).supplyOk = s.supplyOk := rfl
@[simp] theorem State.setLoad_serial (s : State) (x : Loader) : (s.setLoad x).serial = s.serial := rfl
@[simp] theorem State.setLoad_pending (s : State) (x : Loader) : (s.setLoad x).pending = s.pending := rfl
@[simp] theorem State.setLoad_setLoad (s : State) (x y : Loader) : (s.setLoad x).setLoad y = s.setLoad y := rfl
@[simp] theorem State.setLoad_self (s : State) : s.setLoad s.load = s := rfl

/-! ### setPhase -/

@[simp] theorem State.setPhase_pins (s : State) (x : Nat) : (s.setPhase x).pins = s.pins := rfl
@[simp] theorem State.setPhase_inputs (s : State) (x : Nat) : (s.setPhase x).inputs = s.inputs := rfl
@[simp] theorem State.setPhase_scan (s : State) (x : Nat) : (s.setPhase x).scan = s.scan := rfl
@[simp] theorem State.setPhase_cycle (s : State) (x : Nat) : (s.setPhase x).cycle = s.cycle := rfl
@[simp] theorem State.setPhase_valves (s : State) (x : Nat) : (s.setPhase x).valves = s.valves := rfl
@[simp] theorem State.setPhase_peers (s : State) (x : Nat) : (s.setPhase x).peers = s.peers := rfl
@[simp] theorem State.setPhase_arb (s : State) (x : Nat) : (s.setPhase x).arb = s.arb := rfl
@[simp] theorem State.setPhase_dose (s : State) (x : Nat) : (s.setPhase x).dose = s.dose := rfl
@[simp] theorem State.setPhase_link (s : State) (x : Nat) : (s.setPhase x).link = s.link := rfl
@[simp] theorem State.setPhase_req (s : State) (x : Nat) : (s.setPhase x).req = s.req := rfl
@[simp] theorem State.setPhase_load (s : State) (x : Nat) : (s.setPhase x).load = s.load := rfl
@[simp] theorem State.setPhase_phase (s : State) (x : Nat) : (s.setPhase x).phase = x := rfl
@[simp] theorem State.setPhase_supplyOk (s : State) (x : Nat) : (s.setPhase x).supplyOk = s.supplyOk := rfl
@[simp] theorem State.setPhase_serial (s : State) (x : Nat) : (s.setPhase x).serial = s.serial := rfl
@[simp] theorem State.setPhase_pending (s : State) (x : Nat) : (s.setPhase x).pending = s.pending := rfl
@[simp] theorem State.setPhase_setPhase (s : State) (x y : Nat) : (s.setPhase x).setPhase y = s.setPhase y := rfl
@[simp] theorem State.setPhase_self (s : State) : s.setPhase s.phase = s := rfl

/-! ### setSupplyOk -/

@[simp] theorem State.setSupplyOk_pins (s : State) (x : Bool) : (s.setSupplyOk x).pins = s.pins := rfl
@[simp] theorem State.setSupplyOk_inputs (s : State) (x : Bool) : (s.setSupplyOk x).inputs = s.inputs := rfl
@[simp] theorem State.setSupplyOk_scan (s : State) (x : Bool) : (s.setSupplyOk x).scan = s.scan := rfl
@[simp] theorem State.setSupplyOk_cycle (s : State) (x : Bool) : (s.setSupplyOk x).cycle = s.cycle := rfl
@[simp] theorem State.setSupplyOk_valves (s : State) (x : Bool) : (s.setSupplyOk x).valves = s.valves := rfl
@[simp] theorem State.setSupplyOk_peers (s : State) (x : Bool) : (s.setSupplyOk x).peers = s.peers := rfl
@[simp] theorem State.setSupplyOk_arb (s : State) (x : Bool) : (s.setSupplyOk x).arb = s.arb := rfl
@[simp] theorem State.setSupplyOk_dose (s : State) (x : Bool) : (s.setSupplyOk x).dose = s.dose := rfl
@[simp] theorem State.setSupplyOk_link (s : State) (x : Bool) : (s.setSupplyOk x).link = s.link := rfl
@[simp] theorem State.setSupplyOk_req (s : State) (x : Bool) : (s.setSupplyOk x).req = s.req := rfl
@[simp] theorem State.setSupplyOk_load (s : State) (x : Bool) : (s.setSupplyOk x).load = s.load := rfl
@[simp] theorem State.setSupplyOk_phase (s : State) (x : Bool) : (s.setSupplyOk x).phase = s.phase := rfl
@[simp] theorem State.setSupplyOk_supplyOk (s : State) (x : Bool) : (s.setSupplyOk x).supplyOk = x := rfl
@[simp] theorem State.setSupplyOk_serial (s : State) (x : Bool) : (s.setSupplyOk x).serial = s.serial := rfl
@[simp] theorem State.setSupplyOk_pending (s : State) (x : Bool) : (s.setSupplyOk x).pending = s.pending := rfl
@[simp] theorem State.setSupplyOk_setSupplyOk (s : State) (x y : Bool) : (s.setSupplyOk x).setSupplyOk y = s.setSupplyOk y := rfl
@[simp] theorem State.setSupplyOk_self (s : State) : s.setSupplyOk s.supplyOk = s := rfl

/-! ### setSerial -/

@[simp] theorem State.setSerial_pins (s : State) (x : Nat) : (s.setSerial x).pins = s.pins := rfl
@[simp] theorem State.setSerial_inputs (s : State) (x : Nat) : (s.setSerial x).inputs = s.inputs := rfl
@[simp] theorem State.setSerial_scan (s : State) (x : Nat) : (s.setSerial x).scan = s.scan := rfl
@[simp] theorem State.setSerial_cycle (s : State) (x : Nat) : (s.setSerial x).cycle = s.cycle := rfl
@[simp] theorem State.setSerial_valves (s : State) (x : Nat) : (s.setSerial x).valves = s.valves := rfl
@[simp] theorem State.setSerial_peers (s : State) (x : Nat) : (s.setSerial x).peers = s.peers := rfl
@[simp] theorem State.setSerial_arb (s : State) (x : Nat) : (s.setSerial x).arb = s.arb := rfl
@[simp] theorem State.setSerial_dose (s : State) (x : Nat) : (s.setSerial x).dose = s.dose := rfl
@[simp] theorem State.setSerial_link (s : State) (x : Nat) : (s.setSerial x).link = s.link := rfl
@[simp] theorem State.setSerial_req (s : State) (x : Nat) : (s.setSerial x).req = s.req := rfl
@[simp] theorem State.setSerial_load (s : State) (x : Nat) : (s.setSerial x).load = s.load := rfl
@[simp] theorem State.setSerial_phase (s : State) (x : Nat) : (s.setSerial x).phase = s.phase := rfl
@[simp] theorem State.setSerial_supplyOk (s : State) (x : Nat) : (s.setSerial x).supplyOk = s.supplyOk := rfl
@[simp] theorem State.setSerial_serial (s : State) (x : Nat) : (s.setSerial x).serial = x := rfl
@[simp] theorem State.setSerial_pending (s : State) (x : Nat) : (s.setSerial x).pending = s.pending := rfl
@[simp] theorem State.setSerial_setSerial (s : State) (x y : Nat) : (s.setSerial x).setSerial y = s.setSerial y := rfl
@[simp] theorem State.setSerial_self (s : State) : s.setSerial s.serial = s := rfl

/-! ### setPending -/

@[simp] theorem State.setPending_pins (s : State) (x : List Instr) : (s.setPending x).pins = s.pins := rfl
@[simp] theorem State.setPending_inputs (s : State) (x : List Instr) : (s.setPending x).inputs = s.inputs := rfl
@[simp] theorem State.setPending_scan (s : State) (x : List Instr) : (s.setPending x).scan = s.scan := rfl
@[simp] theorem State.setPending_cycle (s : State) (x : List Instr) : (s.setPending x).cycle = s.cycle := rfl
@[simp] theorem State.setPending_valves (s : State) (x : List Instr) : (s.setPending x).valves = s.valves := rfl
@[simp] theorem State.setPending_peers (s : State) (x : List Instr) : (s.setPending x).peers = s.peers := rfl
@[simp] theorem State.setPending_arb (s : State) (x : List Instr) : (s.setPending x).arb = s.arb := rfl
@[simp] theorem State.setPending_dose (s : State) (x : List Instr) : (s.setPending x).dose = s.dose := rfl
@[simp] theorem State.setPending_link (s : State) (x : List Instr) : (s.setPending x).link = s.link := rfl
@[simp] theorem State.setPending_req (s : State) (x : List Instr) : (s.setPending x).req = s.req := rfl
@[simp] theorem State.setPending_load (s : State) (x : List Instr) : (s.setPending x).load = s.load := rfl
@[simp] theorem State.setPending_phase (s : State) (x : List Instr) : (s.setPending x).phase = s.phase := rfl
@[simp] theorem State.setPending_supplyOk (s : State) (x : List Instr) : (s.setPending x).supplyOk = s.supplyOk := rfl
@[simp] theorem State.setPending_serial (s : State) (x : List Instr) : (s.setPending x).serial = s.serial := rfl
@[simp] theorem State.setPending_pending (s : State) (x : List Instr) : (s.setPending x).pending = x := rfl
@[simp] theorem State.setPending_setPending (s : State) (x y : List Instr) : (s.setPending x).setPending y = s.setPending y := rfl
@[simp] theorem State.setPending_self (s : State) : s.setPending s.pending = s := rfl

end Sys2Proof.Machine
end

