-- ==== Sys2Proof/Laws/Link.lean ====
section
/-! SUPPORT. What each operation of the bus link can do: an offer, the take into transmission, a failure, a
completion; and the counters they leave. -/

namespace Sys2Proof.Machine

/-- While OFF an offer is lost (R133). -/
theorem Link.offer_off {l : Link} (h : l.mode = .off) (f : TxFrame) : l.offer f = l := by
  simp [Link.offer, h]

/-- An offer of a CLAIM while not OFF (R133). -/
theorem Link.offer_claim {l : Link} (h : l.mode ≠ .off) {f : TxFrame} {n : Option Nat} (hk : f.kind = .claim n) :
    l.offer f = { l with claim := some f } := by
  unfold Link.offer; cases hm : l.mode <;> simp_all

theorem Link.offer_reading {l : Link} (h : l.mode ≠ .off) {f : TxFrame} (hk : f.kind = .reading) :
    l.offer f = { l with reading := some f } := by
  unfold Link.offer; cases hm : l.mode <;> simp_all

theorem Link.offer_status {l : Link} (h : l.mode ≠ .off) {f : TxFrame} (hk : f.kind = .status) :
    l.offer f = { l with status := some f } := by
  unfold Link.offer; cases hm : l.mode <;> simp_all

theorem Link.offer_answer {l : Link} (h : l.mode ≠ .off) (hn : l.answers.length < 4) {f : TxFrame} {m : Bool}
    (hk : f.kind = .answer m) : l.offer f = { l with answers := l.answers ++ [f] } := by
  unfold Link.offer; cases hm : l.mode <;> simp_all

/-- An offer changes the waiting frames alone (R133). -/
theorem Link.offer_keeps (l : Link) (f : TxFrame) :
    ∃ c r s a, l.offer f = { l with claim := c, reading := r, status := s, answers := a }
      ∧ (l.answers.length ≤ 4 → a.length ≤ 4) := by
  unfold Link.offer
  split
  · exact ⟨l.claim, l.reading, l.status, l.answers, rfl, id⟩
  · split
    · exact ⟨some f, l.reading, l.status, l.answers, rfl, id⟩
    · exact ⟨l.claim, some f, l.status, l.answers, rfl, id⟩
    · exact ⟨l.claim, l.reading, some f, l.answers, rfl, id⟩
    · split
      · exact ⟨l.claim, l.reading, l.status, l.answers ++ [f], rfl, fun _ => by
          simp only [List.length_append, List.length_singleton]; omega⟩
      · exact ⟨l.claim, l.reading, l.status, l.answers, rfl, id⟩
  · split
    · exact ⟨some f, l.reading, l.status, l.answers, rfl, id⟩
    · exact ⟨l.claim, some f, l.status, l.answers, rfl, id⟩
    · exact ⟨l.claim, l.reading, some f, l.answers, rfl, id⟩
    · split
      · exact ⟨l.claim, l.reading, l.status, l.answers ++ [f], rfl, fun _ => by
          simp only [List.length_append, List.length_singleton]; omega⟩
      · exact ⟨l.claim, l.reading, l.status, l.answers, rfl, id⟩

@[simp] theorem Link.offer_mode (l : Link) (f : TxFrame) : (l.offer f).mode = l.mode := by
  obtain ⟨_, _, _, _, h, _⟩ := l.offer_keeps f; rw [h]

@[simp] theorem Link.offer_tally (l : Link) (f : TxFrame) : (l.offer f).tally = l.tally := by
  obtain ⟨_, _, _, _, h, _⟩ := l.offer_keeps f; rw [h]

@[simp] theorem Link.offer_inTx (l : Link) (f : TxFrame) : (l.offer f).inTx = l.inTx := by
  obtain ⟨_, _, _, _, h, _⟩ := l.offer_keeps f; rw [h]

@[simp] theorem Link.offer_attempt (l : Link) (f : TxFrame) : (l.offer f).attempt = l.attempt := by
  obtain ⟨_, _, _, _, h, _⟩ := l.offer_keeps f; rw [h]

@[simp] theorem Link.offer_successAge (l : Link) (f : TxFrame) : (l.offer f).successAge = l.successAge := by
  obtain ⟨_, _, _, _, h, _⟩ := l.offer_keeps f; rw [h]

/-- With a frame in transmission nothing is taken (R134). -/
theorem Link.take_busy {l : Link} {f : TxFrame} (h : l.inTx = some f) : l.take = l := by
  unfold Link.take; split <;> simp_all

/-- While OFF nothing is taken (R134). -/
theorem Link.take_off {l : Link} (h : l.mode = .off) : l.take = l := by
  unfold Link.take; split <;> simp_all

/-- With none in transmission and the link not OFF the waiting frame of lowest identifier is taken (R134). -/
theorem Link.take_free {l : Link} (h : l.inTx = none) (hm : l.mode ≠ .off) : l.take = l.takeWaiting := by
  unfold Link.take; cases hl : l.mode <;> simp_all

theorem lowestAnswer_isSome {l : List TxFrame} : (lowestAnswer l).isSome = !l.isEmpty := by
  cases l with
  | nil => rfl
  | cons f rest =>
    simp only [lowestAnswer]
    split
    · rfl
    · split <;> rfl

/-- The take changes the waiting frames, the frame in transmission and its attempt alone (R134), and where it leaves
nothing in transmission nothing waits, but for a link that is OFF. -/
theorem Link.take_keeps (l : Link) :
    ∃ c r s a i m, l.take = { l with claim := c, reading := r, status := s, answers := a, inTx := i, attempt := m }
      ∧ a.length ≤ l.answers.length ∧ (l.mode ≠ .off → i = none → l.take.nothingWaiting = true)
      ∧ (l.mode = .off → l.take = l) := by
  by_cases hm : l.mode = .off
  · exact ⟨l.claim, l.reading, l.status, l.answers, l.inTx, l.attempt, by rw [Link.take_off hm], Nat.le_refl _,
      fun h => absurd hm h, fun _ => Link.take_off hm⟩
  cases hi : l.inTx with
  | some f =>
    exact ⟨l.claim, l.reading, l.status, l.answers, some f, l.attempt, by rw [Link.take_busy hi, ← hi],
      Nat.le_refl _, fun _ h => by simp at h, fun h => absurd h hm⟩
  | none =>
    rw [Link.take_free hi hm]
    cases hc : l.claim with
    | some f =>
      exact ⟨none, l.reading, l.status, l.answers, some f, .idle, by simp [Link.takeWaiting, hc],
        Nat.le_refl _, fun _ h => by simp at h, fun h => absurd h hm⟩
    | none =>
    cases hr : l.reading with
    | some f =>
      exact ⟨none, none, l.status, l.answers, some f, .idle, by simp [Link.takeWaiting, hc, hr],
        Nat.le_refl _, fun _ h => by simp at h, fun h => absurd h hm⟩
    | none =>
    cases hs : l.status with
    | some f =>
      exact ⟨none, none, none, l.answers, some f, .idle, by simp [Link.takeWaiting, hc, hr, hs],
        Nat.le_refl _, fun _ h => by simp at h, fun h => absurd h hm⟩
    | none =>
    cases ha : lowestAnswer l.answers with
    | some f =>
      refine ⟨none, none, none, l.answers.erase f, some f, .idle, by simp [Link.takeWaiting, hc, hr, hs, ha],
        ?_, fun _ h => by simp at h, fun h => absurd h hm⟩
      exact List.Sublist.length_le List.erase_sublist
    | none =>
      have he : l.answers.isEmpty = true := by
        have := lowestAnswer_isSome (l := l.answers); rw [ha] at this; simpa using this
      have ht : l.takeWaiting = l := by simp [Link.takeWaiting, hc, hr, hs, ha]
      refine ⟨none, none, none, l.answers, none, l.attempt, ?_, Nat.le_refl _, fun _ _ => ?_, fun h => absurd h hm⟩
      · rw [ht]; cases l; simp_all
      · rw [ht]; simp [Link.nothingWaiting, hc, hr, hs, he]

@[simp] theorem Link.take_mode (l : Link) : l.take.mode = l.mode := by
  obtain ⟨_, _, _, _, _, _, h, _⟩ := l.take_keeps; rw [h]

@[simp] theorem Link.take_tally (l : Link) : l.take.tally = l.tally := by
  obtain ⟨_, _, _, _, _, _, h, _⟩ := l.take_keeps; rw [h]

@[simp] theorem Link.take_successAge (l : Link) : l.take.successAge = l.successAge := by
  obtain ⟨_, _, _, _, _, _, h, _⟩ := l.take_keeps; rw [h]

@[simp] theorem Link.take_offTimer (l : Link) : l.take.offTimer = l.offTimer := by
  obtain ⟨_, _, _, _, _, _, h, _⟩ := l.take_keeps; rw [h]

/-- A failure that does not take the link OFF (R135, R137). -/
theorem Link.fail_of_room {l : Link} (h : l.tally + 8 ≤ 255) :
    l.fail =
      { l with
        txFailures := satInc l.txFailures, firstError := firstOf l.firstError .transmit, attempt := .idle,
        tally := l.tally + 8, mode := judgedMode (l.tally + 8) } := by
  have : l.failureGoesOff = false := by simp only [Link.failureGoesOff, decide_eq_false_iff_not]; omega
  simp [Link.fail, this]

/-- A failure that takes the link OFF: everything is dropped (R137, R138). -/
theorem Link.fail_off {l : Link} (h : 255 < l.tally + 8) :
    l.fail.mode = .off ∧ l.fail.tally = 255 ∧ l.fail.inTx = none ∧ l.fail.nothingWaiting = true
      ∧ l.fail.offTimer = 0 ∧ l.fail.linkOffs = satInc l.linkOffs := by
  have : l.failureGoesOff = true := by simp only [Link.failureGoesOff, decide_eq_true_eq]; omega
  simp [Link.fail, this, Link.nothingWaiting]

/-- The mode is OFF or that of the tally after every failure and completion (R137). -/
theorem Link.fail_mode (l : Link) : l.fail.mode = .off ∨ l.fail.mode = judgedMode l.fail.tally := by
  unfold Link.fail; simp only; split
  · exact .inl rfl
  · exact .inr rfl

theorem Link.complete_mode (l : Link) : l.complete.mode = judgedMode l.complete.tally := rfl

/-- What an event does once its body has run: nothing but the link changes (R32, R134). -/
theorem finish_eq (c : CycleState) (b : Bool) (s : State) :
    finish c b s =
      s.setLink
        (if s.cycle.state != .starting && (b || s.cycle.state != c) then s.link.offer (statusFrame s)
         else s.link).take := by
  unfold finish; simp only; split <;> rfl

/-- An event with the supply in range. -/
theorem event_eq {s : State} (h : s.supplyOk = true) (b : Bool) (body : State → State) :
    event b body s = .next (finish s.cycle.state b (body s)) := by simp [event, h]

/-- An event while a reset is held (R159). -/
theorem event_held {s : State} (h : s.supplyOk = false) (b : Bool) (body : State → State) :
    event b body s = .next s := by simp [event, h]

/-- An event that leaves the cycle state, and is no second tick, ends in the take into transmission alone. -/
theorem event_quiet {s : State} (h : s.supplyOk = true) (body : State → State)
    (hb : (body s).cycle.state = s.cycle.state) :
    event false body s = .next ((body s).setLink (body s).link.take) := by
  rw [event_eq h, finish_eq]; simp [hb]

end Sys2Proof.Machine
end

