-- ==== Sys2Proof/Laws/Arith.lean ====
section
/-! SUPPORT. The arithmetic of the scanner, the dosing unit and the loader in its bounds, and the fields of an
identifier read back. -/

namespace Sys2Proof.Machine

/-- A converted value is at most the span (R34). -/
theorem convert_le (span c : Nat) : convert span c ≤ span := by
  unfold convert
  have h : min 4000 (max 800 c) - 800 ≤ 3200 := by omega
  exact Nat.le_trans (Nat.div_le_div_right (Nat.mul_le_mul_right span h)) (by omega)

theorem loadingValue_le (dc d0 dlim : Nat) : loadingValue dc d0 dlim ≤ 1000 := by
  unfold loadingValue; split <;> omega

theorem correctedHeadloss_le (dp qref q : Nat) : correctedHeadloss dp qref q ≤ 4000 := Nat.min_le_left _ _

/-- The ring holds at most 8 values (R42). -/
theorem pushRing_length {ring : List Nat} (l : Nat) (h : ring.length ≤ 8) : (pushRing ring l).length ≤ 8 := by
  unfold pushRing; split <;> simp only [List.length_append, List.length_drop, List.length_singleton] <;> omega

theorem pushRing_mem {ring : List Nat} {l x : Nat} (h : x ∈ pushRing ring l) : x ∈ ring ∨ x = l := by
  unfold pushRing at h
  rcases List.mem_append.1 h with h | h
  · split at h
    · exact .inl h
    · exact .inl (List.mem_of_mem_drop h)
  · exact .inr (by simpa using h)

theorem clampTo_bounds {lo hi : Nat} (h : lo ≤ hi) (v : Nat) : lo ≤ clampTo lo hi v ∧ clampTo lo hi v ≤ hi := by
  unfold clampTo; omega

/-- A value within its range is not moved (R164). -/
theorem clampTo_eq {lo hi v : Nat} (h1 : lo ≤ v) (h2 : v ≤ hi) : clampTo lo hi v = v := by
  unfold clampTo; omega

/-- The dose is at most the max dose (R117). -/
theorem doseOf_le (cfg : WorkingConfig) (m : DosingMode) (f : Nat) : doseOf cfg m f ≤ cfg.maxDose :=
  Nat.min_le_left _ _

theorem intervalOf_bounds {cfg : WorkingConfig} (h : cfg.minStrokeInterval ≤ 65535) (q d : Nat) :
    cfg.minStrokeInterval ≤ intervalOf cfg q d ∧ intervalOf cfg q d ≤ 65535 := by
  unfold intervalOf; omega

/-- The identifier's fields read back (R129). -/
theorem identOf_toNat {k g p : Nat} (hk : k < 8) (hg : g < 8) (hp : p < 32) :
    (identOf k g p).toNat = k * 256 + g * 32 + p := by
  unfold identOf; rw [BitVec.toNat_ofNat]; omega

theorem kindOf_identOf {k g p : Nat} (hk : k < 8) (hg : g < 8) (hp : p < 32) : kindOf (identOf k g p) = k := by
  unfold kindOf; rw [identOf_toNat hk hg hp]; omega

theorem groupOf_identOf {k g p : Nat} (hk : k < 8) (hg : g < 8) (hp : p < 32) : groupOf (identOf k g p) = g := by
  unfold groupOf; rw [identOf_toNat hk hg hp]; omega

theorem stationOf_identOf {k g p : Nat} (hk : k < 8) (hg : g < 8) (hp : p < 32) :
    stationOf (identOf k g p) = p := by
  unfold stationOf; rw [identOf_toNat hk hg hp]; omega

/-- A plain frame of a group and a station is judged by its own kind, group and number (R130). -/
theorem receive_plainFrame {k : Nat} (hk : k < 8) (g : BitVec 3) (p : BitVec 5) (data : List Byte) (s : State) :
    receive (plainFrame k g.toNat p.toNat data) s =
      judgeFrame k g.toNat p.toNat data (s.setLink s.link.afterArrival) := by
  have hg : g.toNat < 8 := g.isLt
  have hp : p.toNat < 32 := p.isLt
  simp [receive, plainFrame, kindOf_identOf hk hg hp, groupOf_identOf hk hg hp, stationOf_identOf hk hg hp]

end Sys2Proof.Machine
end

