-- ==== Sys2Proof/Laws/Ops.lean ====
section
/-! SUPPORT. What the named operations give: counting, access by name after an update by name, the debounce sample
and the six channels as a list. -/

namespace Sys2Proof

theorem satInc_le (n : Nat) : satInc n ≤ 255 := by unfold satInc; split <;> omega

theorem le_satInc {n : Nat} (h : n ≤ 255) : n ≤ satInc n := by unfold satInc; split <;> omega

theorem incTo_le (top n : Nat) : incTo top n ≤ top := by unfold incTo; split <;> omega

theorem le_incTo {top n : Nat} (h : n ≤ top) : n ≤ incTo top n := by unfold incTo; split <;> omega

theorem incTo_eq_top {top n : Nat} : incTo top n = top ↔ top ≤ n + 1 := by unfold incTo; split <;> omega

namespace Machine

theorem ValveId.mem_all (v : ValveId) : v ∈ ValveId.all := by cases v <;> decide

theorem ChannelId.mem_all (c : ChannelId) : c ∈ ChannelId.all := by cases c <;> decide

/-- A Bool that all six channels have. -/
theorem valves_all_iff {p : ValveId → Bool} : ValveId.all.all p = true ↔ ∀ v, p v = true := by
  simp only [List.all_eq_true]
  exact ⟨fun h v => h v (ValveId.mem_all v), fun h v _ => h v⟩

theorem channels_all_iff {p : ChannelId → Bool} : ChannelId.all.all p = true ↔ ∀ c, p c = true := by
  simp only [List.all_eq_true]
  exact ⟨fun h c => h c (ChannelId.mem_all c), fun h c _ => h c⟩

@[simp] theorem Valves.get_set (x : Valves) (v w : ValveId) (c : Valve) :
    (x.set v c).get w = if w = v then c else x.get w := by cases v <;> cases w <;> rfl

@[simp] theorem Valves.get_map (x : Valves) (f : ValveId → Valve → Valve) (v : ValveId) :
    (x.map f).get v = f v (x.get v) := by cases v <;> rfl

@[simp] theorem Valves.get_command (x : Valves) (set : ValveSet) (v : ValveId) :
    (x.command set).get v = ((x.get v).command (set v)).1 := by cases v <;> rfl

theorem Valves.ext_get {x y : Valves} (h : ∀ v, x.get v = y.get v) : x = y := by
  obtain ⟨x1, x2, x3, x4, x5, x6⟩ := x
  obtain ⟨y1, y2, y3, y4, y5, y6⟩ := y
  have h1 := h .inlet; have h2 := h .outlet; have h3 := h .washIn
  have h4 := h .washOut; have h5 := h .rinse; have h6 := h .air
  simp only [Valves.get] at h1 h2 h3 h4 h5 h6
  subst h1 h2 h3 h4 h5 h6; rfl

@[simp] theorem ValveFlags.get_ofFn (f : ValveId → Bool) (v : ValveId) : (ValveFlags.ofFn f).get v = f v := by
  cases v <;> rfl

@[simp] theorem ValveFlags.get_mark (x : ValveFlags) (v w : ValveId) :
    (x.mark v).get w = (decide (w = v) || x.get w) := by cases v <;> cases w <;> rfl

theorem ValveFlags.all_iff (x : ValveFlags) : x.all = true ↔ ∀ v, x.get v = true := by
  constructor
  · intro h v
    simp only [ValveFlags.all, Bool.and_eq_true] at h
    cases v <;> simp [ValveFlags.get, h]
  · intro h
    have h1 := h .inlet; have h2 := h .outlet; have h3 := h .washIn
    have h4 := h .washOut; have h5 := h .rinse; have h6 := h .air
    simp only [ValveFlags.get] at h1 h2 h3 h4 h5 h6
    simp [ValveFlags.all, h1, h2, h3, h4, h5, h6]

theorem ValveFlags.any_iff (x : ValveFlags) : x.any = true ↔ ∃ v, x.get v = true := by
  constructor
  · intro h
    simp only [ValveFlags.any, Bool.or_eq_true] at h
    rcases h with ((((h | h) | h) | h) | h) | h
    · exact ⟨.inlet, h⟩
    · exact ⟨.outlet, h⟩
    · exact ⟨.washIn, h⟩
    · exact ⟨.washOut, h⟩
    · exact ⟨.rinse, h⟩
    · exact ⟨.air, h⟩
  · rintro ⟨v, h⟩
    cases v <;> simp only [ValveFlags.get] at h <;> simp [ValveFlags.any, h]

@[simp] theorem Channels.get_set (x : Channels) (c d : ChannelId) (r : ChannelRecord) :
    (x.set c r).get d = if d = c then r else x.get d := by cases c <;> cases d <;> rfl

@[simp] theorem Inputs.get_set (x : Inputs) (i j : DiscreteInput) (l : DebouncedLine) :
    (x.set i l).get j = if j = i then l else x.get j := by cases i <;> cases j <;> rfl

@[simp] theorem Pins.analog_setAnalog (x : Pins) (c d : ChannelId) (n : BitVec 12) :
    (x.setAnalog c n).analog d = if d = c then n else x.analog d := by cases c <;> cases d <;> rfl

@[simp] theorem Pins.setAnalog_straps (x : Pins) (c : ChannelId) (n : BitVec 12) :
    (x.setAnalog c n).straps = x.straps := by cases c <;> rfl

@[simp] theorem Position.other_other (p : Position) : p.other.other = p := by cases p <;> rfl

@[simp] theorem Valve.switch_setSwitch (c : Valve) (p q : Position) (l : DebouncedLine) :
    (c.setSwitch p l).switch q = if q = p then l else c.switch q := by cases p <;> cases q <;> rfl

@[simp] theorem Valve.setSwitch_state (c : Valve) (p : Position) (l : DebouncedLine) :
    (c.setSwitch p l).state = c.state := by cases p <;> rfl

@[simp] theorem Valve.setSwitch_target (c : Valve) (p : Position) (l : DebouncedLine) :
    (c.setSwitch p l).target = c.target := by cases p <;> rfl

@[simp] theorem Valve.setSwitch_travel (c : Valve) (p : Position) (l : DebouncedLine) :
    (c.setSwitch p l).travel = c.travel := by cases p <;> rfl

@[simp] theorem Valve.setSwitch_pause (c : Valve) (p : Position) (l : DebouncedLine) :
    (c.setSwitch p l).pause = c.pause := by cases p <;> rfl

/-- A sample changes the run count alone (R54, R155). -/
@[simp] theorem DebouncedLine.sample_level (l : DebouncedLine) : l.sample.level = l.level := by
  unfold DebouncedLine.sample; split <;> rfl

@[simp] theorem DebouncedLine.sample_raw (l : DebouncedLine) : l.sample.raw = l.raw := by
  unfold DebouncedLine.sample; split <;> rfl

/-- The run count never reaches 5: the change itself is the event (R54). -/
theorem DebouncedLine.sample_run_le (l : DebouncedLine) : l.sample.run ≤ 4 := by
  unfold DebouncedLine.sample; split
  · exact Nat.zero_le _
  · exact incTo_le 4 l.run

theorem CycleState.filtering_iff (c : CycleState) :
    c.filtering = true ↔ c = .inService ∨ c = .waiting ∨ c = .contest := by cases c <;> decide

theorem CycleState.washStep_iff (c : CycleState) :
    c.washStep = true ↔ c = .drainDown ∨ c = .airScour ∨ c = .backwash ∨ c = .settle ∨ c = .rinse := by
  cases c <;> decide

theorem CycleState.ofCode_ne_starting {n : Nat} {c : CycleState} (h : CycleState.ofCode n = some c) :
    c ≠ .starting := by
  rintro rfl
  unfold CycleState.ofCode at h
  split at h <;> simp at h

end Machine

end Sys2Proof
end

