-- ==== Sys2Proof/Laws/Channel.lean ====
section
/-! SUPPORT. What a valve channel's operations can do: the state, target and report each leaves. -/

namespace Sys2Proof.Machine

@[simp] theorem settledAt_ne_towards (p q : Position) : settledAt p ≠ towards q := by cases p <;> cases q <;> decide

@[simp] theorem towards_ne_settledAt (p q : Position) : towards p ≠ settledAt q := by cases p <;> cases q <;> decide

@[simp] theorem settledAt_inj {p q : Position} : settledAt p = settledAt q ↔ p = q := by
  cases p <;> cases q <;> decide

@[simp] theorem towards_inj {p q : Position} : towards p = towards q ↔ p = q := by cases p <;> cases q <;> decide

@[simp] theorem towards_travelling (p : Position) : (towards p).travelling = true := by cases p <;> rfl

@[simp] theorem settledAt_travelling (p : Position) : (settledAt p).travelling = false := by cases p <;> rfl

@[simp] theorem towards_destination (p : Position) : (towards p).destination = some p := by cases p <;> rfl

@[simp] theorem settledAt_destination (p : Position) : (settledAt p).destination = none := by cases p <;> rfl

theorem ValveState.travelling_iff (x : ValveState) : x.travelling = true ↔ ∃ p, x = towards p := by
  constructor
  · intro h
    cases x <;> simp only [ValveState.travelling, Bool.false_eq_true] at h
    · exact ⟨.opened, rfl⟩
    · exact ⟨.closed, rfl⟩
  · rintro ⟨p, rfl⟩; exact towards_travelling p

/-- A command leaves the switches as they are. -/
@[simp] theorem Valve.command_switch (c : Valve) (p q : Position) : ((c.command p).1).switch q = c.switch q := by
  unfold Valve.command; simp only
  split
  · cases q <;> rfl
  · split
    · cases q <;> rfl
    · split
      · cases q <;> rfl
      · split <;> cases q <;> rfl

/-- The three outcomes of a command (R57): settled and confirmed, faulted, or travelling toward P. -/
theorem Valve.command_cases (c : Valve) (p : Position) :
    (c.atLimit p = true ∧ (c.command p).2 = .confirmation ∧ (c.command p).1.state = settledAt p
        ∧ (c.command p).1.target = some p)
    ∨ (c.bothAsserted = true ∧ (c.command p).2 = .fault ∧ (c.command p).1.state = .fault .switches
        ∧ (c.command p).1.target = none)
    ∨ (c.atLimit p = false ∧ c.bothAsserted = false ∧ (c.command p).2 = .none
        ∧ (c.command p).1.state = towards p ∧ (c.command p).1.target = some p) := by
  have hl : ({ c with target := some p } : Valve).atLimit p = c.atLimit p := by cases p <;> rfl
  have hb : ({ c with target := some p } : Valve).bothAsserted = c.bothAsserted := rfl
  unfold Valve.command; simp only [hl, hb]
  by_cases h1 : c.atLimit p = true
  · exact .inl ⟨h1, by simp [h1, Valve.settleAt]⟩
  · have h1' : c.atLimit p = false := by simpa using h1
    by_cases h2 : c.bothAsserted = true
    · exact .inr (.inl ⟨h2, by simp [h1', h2, Valve.enterFault]⟩)
    · have h2' : c.bothAsserted = false := by simpa using h2
      refine .inr (.inr ⟨h1', h2', ?_⟩)
      by_cases h3 : c.state = towards p
      · simp [h1', h2', h3]
      · by_cases h4 : c.state = towards p.other
        · simp [h1', h2', h4, Valve.reverse]
          cases p <;> simp [towards, Position.other]
        · simp [h1', h2', h3, h4, Valve.startDrive]

/-- A stopped channel does not travel (R59). -/
theorem Valve.stop_not_travelling (c : Valve) : c.stop.state.travelling = false := by
  unfold Valve.stop; split <;> simp_all [ValveState.travelling]

@[simp] theorem Valve.stop_switch (c : Valve) (q : Position) : c.stop.switch q = c.switch q := by
  unfold Valve.stop; split <;> cases q <;> rfl

/-- No command faults a channel where none has both switches asserted (R57, case 2). -/
theorem Valves.commandFaults_eq_false {x : Valves} (h : ∀ v, (x.get v).bothAsserted = false) (set : ValveSet) :
    x.commandFaults set = false := by
  cases hf : x.commandFaults set with
  | false => rfl
  | true =>
    obtain ⟨v, hv⟩ := (ValveFlags.any_iff _).1 hf
    rw [ValveFlags.get_ofFn, decide_eq_true_eq] at hv
    rcases (x.get v).command_cases (set v) with hc | hc | hc
    · rw [hc.2.1] at hv; cases hv
    · rw [h v] at hc; exact absurd hc.1 (by decide)
    · rw [hc.2.2.1] at hv; cases hv

/-- A channel confirms at a command exactly where it stands at its limit (R2, R57). -/
theorem Valves.confirmations_get (x : Valves) (set : ValveSet) (v : ValveId) :
    (x.confirmations set).get v = (x.get v).atLimit (set v) := by
  rw [Valves.confirmations, ValveFlags.get_ofFn]
  rcases (x.get v).command_cases (set v) with hc | hc | hc
  · simp [hc.1, hc.2.1]
  · have : (x.get v).atLimit (set v) = false := by
      have hb := hc.1
      simp only [Valve.bothAsserted, Bool.and_eq_true] at hb
      cases set v <;> simp [Valve.atLimit, Valve.switch, Position.other, hb]
    simp [this, hc.2.1]
  · simp [hc.1, hc.2.2.1]

end Sys2Proof.Machine
end

