-- ==== Sys2Proof/Laws/Keeps.lean ====
section
/-! SUPPORT. The frame of the operations that move the cycle: none of them touches the pins, the inputs, the peer
table, the request handler, the loader, the timebase or the queue. One lemma an operation. -/

namespace Sys2Proof.Machine

/-- `t` has what no operation of the cycle controller, the share arbiter, the scanner, the dosing unit or the link
touches of `s`. -/
structure Keeps (s t : State) : Prop where
  supplyOk : t.supplyOk = s.supplyOk
  phase    : t.phase = s.phase
  pins     : t.pins = s.pins
  inputs   : t.inputs = s.inputs
  peers    : t.peers = s.peers
  req      : t.req = s.req
  load     : t.load = s.load
  serial   : t.serial = s.serial
  pending  : t.pending = s.pending

theorem Keeps.refl (s : State) : Keeps s s := ⟨rfl, rfl, rfl, rfl, rfl, rfl, rfl, rfl, rfl⟩

theorem Keeps.trans {s t u : State} (h : Keeps s t) (k : Keeps t u) : Keeps s u :=
  ⟨k.1.trans h.1, k.2.trans h.2, k.3.trans h.3, k.4.trans h.4, k.5.trans h.5, k.6.trans h.6, k.7.trans h.7,
    k.8.trans h.8, k.9.trans h.9⟩

theorem keeps_setScan (s : State) (x : Scanner) : Keeps s (s.setScan x) :=
  ⟨rfl, rfl, rfl, rfl, rfl, rfl, rfl, rfl, rfl⟩

theorem keeps_setCycle (s : State) (x : Cycle) : Keeps s (s.setCycle x) :=
  ⟨rfl, rfl, rfl, rfl, rfl, rfl, rfl, rfl, rfl⟩

theorem keeps_setValves (s : State) (x : Valves) : Keeps s (s.setValves x) :=
  ⟨rfl, rfl, rfl, rfl, rfl, rfl, rfl, rfl, rfl⟩

theorem keeps_setArb (s : State) (x : Arbiter) : Keeps s (s.setArb x) :=
  ⟨rfl, rfl, rfl, rfl, rfl, rfl, rfl, rfl, rfl⟩

theorem keeps_setDose (s : State) (x : Dosing) : Keeps s (s.setDose x) :=
  ⟨rfl, rfl, rfl, rfl, rfl, rfl, rfl, rfl, rfl⟩

theorem keeps_setLink (s : State) (x : Link) : Keeps s (s.setLink x) :=
  ⟨rfl, rfl, rfl, rfl, rfl, rfl, rfl, rfl, rfl⟩

/-! ### Offers and the arbiter -/

theorem keeps_offer (f : TxFrame) (s : State) : Keeps s (offer f s) := keeps_setLink s _

theorem keeps_finish (c : CycleState) (b : Bool) (s : State) : Keeps s (finish c b s) := by
  rw [finish_eq]; exact keeps_setLink s _

theorem keeps_setBackoff (s : State) : Keeps s (setBackoff s) := keeps_setArb s _

theorem keeps_withdraw (s : State) : Keeps s (withdraw s) :=
  (keeps_offer _ s).trans (keeps_setArb _ _)

theorem keeps_takeHold (u : Nat) (s : State) : Keeps s (takeHold u s) :=
  (keeps_setArb s _).trans (keeps_offer _ _)

theorem keeps_releaseFinished (s : State) : Keeps s (releaseFinished s) :=
  (keeps_offer _ s).trans (keeps_setArb _ _)

theorem keeps_wasteReport (v : ValveId) (a b : ValveState) (s : State) : Keeps s (wasteReport v a b s) := by
  unfold wasteReport
  split
  · split
    · unfold wasteLeftClosed
      split
      · exact .refl s
      · split
        · exact .refl s
        · exact keeps_takeHold _ s
    · split
      · unfold wasteBecameClosed
        split
        · exact keeps_releaseFinished s
        · exact .refl s
      · exact .refl s
  · exact .refl s

theorem keeps_releaseAtLockout (s : State) : Keeps s (releaseAtLockout s) := by
  unfold releaseAtLockout; split
  · exact keeps_releaseFinished s
  · exact .refl s

theorem keeps_arbiterSurvey (s : State) : Keeps s (arbiterSurvey s) := by
  unfold arbiterSurvey; split
  · exact keeps_offer _ s
  · exact keeps_takeHold _ s

/-! ### The cycle controller -/

theorem keeps_enterState (c : CycleState) (s : State) : Keeps s (enterState c s) := by
  unfold enterState; simp only
  split <;> split <;>
    exact ⟨rfl, rfl, rfl, rfl, rfl, rfl, rfl, rfl, rfl⟩

theorem keeps_clearDue (s : State) : Keeps s (clearDue s) := keeps_setCycle s _

theorem keeps_commandSet (set : ValveSet) (s : State) : Keeps s (commandSet set s) :=
  (((keeps_setValves s _).trans (keeps_setCycle _ _)).trans (keeps_wasteReport _ _ _ _)).trans
    (keeps_wasteReport _ _ _ _)

theorem keeps_addRecord (o : WashOutcome) (s : State) : Keeps s (addRecord o s) := keeps_setCycle s _

theorem keeps_clearOutcome (s : State) : Keeps s (clearOutcome s) := keeps_setCycle s _

theorem keeps_lockOut (s : State) : Keeps s (lockOut s) := by
  unfold lockOut; simp only
  split
  · exact (((((keeps_addRecord _ s).trans (keeps_clearOutcome _)).trans (keeps_enterState _ _))).trans
      (keeps_setValves _ _)).trans (keeps_releaseAtLockout _)
  · exact ((keeps_enterState _ s).trans (keeps_setValves _ _)).trans (keeps_releaseAtLockout _)

theorem keeps_clearRunSeconds (s : State) : Keeps s (clearRunSeconds s) := by
  unfold clearRunSeconds; split
  · exact keeps_setCycle s _
  · exact .refl s

theorem keeps_completeWash (o : WashOutcome) (s : State) : Keeps s (completeWash o s) := by
  have h1 : Keeps s (releaseFinished s) := keeps_releaseFinished s
  unfold completeWash; simp only
  refine .trans ?_ (keeps_clearOutcome _)
  split
  · exact (((h1.trans (keeps_setBackoff _)).trans (keeps_addRecord _ _)).trans (keeps_clearRunSeconds _)).trans
      (keeps_enterState _ _)
  · have h2 := (((h1.trans (keeps_addRecord o _)).trans (keeps_clearRunSeconds _)).trans
      (keeps_clearDue _)).trans (keeps_enterState .inService _)
    split
    · exact h2.trans (keeps_setScan _ _)
    · exact h2

theorem keeps_recoveringSettled (s : State) : Keeps s (recoveringSettled s) := by
  unfold recoveringSettled
  generalize (if s.cycle.due = .none then CycleState.inService else .waiting) = c
  simp only
  split
  · exact (keeps_enterState _ s).trans (keeps_releaseFinished _)
  · exact keeps_enterState _ s

theorem keeps_onSettled (s : State) : Keeps s (onSettled s) := by
  unfold onSettled; split
  · exact keeps_completeWash _ s
  · exact keeps_recoveringSettled s
  · exact keeps_enterState _ s
  · exact .refl s

theorem keeps_enterCommanding (c : CycleState) (set : ValveSet) (s : State) :
    Keeps s (enterCommanding c set s) := by
  have h := (keeps_enterState c s).trans (keeps_commandSet set _)
  unfold enterCommanding; simp only
  split
  · exact h.trans (keeps_lockOut _)
  · split
    · exact h.trans (keeps_onSettled _)
    · exact h

theorem keeps_enterRecovering (s : State) : Keeps s (enterRecovering s) := keeps_enterCommanding _ _ s

theorem keeps_enterReturning (s : State) : Keeps s (enterReturning s) := keeps_enterCommanding _ _ s

theorem keeps_closeBackwash (s : State) : Keeps s (closeBackwash s) := by
  unfold closeBackwash; split
  · exact keeps_setCycle s _
  · exact .refl s

theorem keeps_cutShort (o : WashOutcome) (s : State) : Keeps s (cutShort o s) :=
  ((keeps_closeBackwash s).trans (keeps_setCycle _ _)).trans (keeps_enterReturning _)

theorem keeps_enterStep (c : CycleState) (s : State) : Keeps s (enterStep c s) := by
  have h := (keeps_enterState c s).trans (keeps_commandSet (stepSet c) _)
  unfold enterStep; simp only
  split
  · exact h.trans (keeps_cutShort _ _)
  · exact h

theorem keeps_endBackwash (o : WashOutcome) (s : State) : Keeps s (endBackwash o s) :=
  ((keeps_closeBackwash s).trans (keeps_setCycle _ _)).trans (keeps_enterStep _ _)

theorem keeps_valveFault (s : State) : Keeps s (valveFault s) := by
  unfold valveFault
  split
  · exact .refl s
  · exact .refl s
  · exact keeps_enterRecovering s
  · exact keeps_enterRecovering s
  · unfold endContestAtFault; split
    · exact (keeps_withdraw s).trans (keeps_enterRecovering _)
    · exact keeps_enterRecovering s
  all_goals first | exact keeps_cutShort _ s | exact keeps_lockOut s

theorem keeps_valveConfirmed (v : ValveId) (s : State) : Keeps s (valveConfirmed v s) := by
  unfold valveConfirmed; simp only
  split
  · exact (keeps_setCycle s _).trans (keeps_onSettled _)
  · exact keeps_setCycle s _

theorem keeps_channelEvent (v : ValveId) (x : Valve × Report) (s : State) : Keeps s (channelEvent v x s) := by
  have h := (keeps_setValves s (s.valves.set v x.1)).trans
    (keeps_wasteReport v (s.valves.get v).state x.1.state _)
  unfold channelEvent; simp only
  split
  · exact h
  · exact h.trans (keeps_valveConfirmed _ _)
  · exact h.trans (keeps_valveFault _)

theorem keeps_raiseDue (r : DueReason) (s : State) : Keeps s (raiseDue r s) :=
  (keeps_setCycle s _).trans (keeps_enterState _ _)

theorem keeps_evaluateDue (s : State) : Keeps s (evaluateDue s) := by
  unfold evaluateDue; simp only
  split
  · split
    · exact .refl s
    · exact keeps_raiseDue _ s
  · split
    · exact keeps_setCycle s _
    · exact .refl s
  · split
    · exact keeps_setCycle s _
    · exact .refl s
  · exact .refl s

theorem keeps_cycleSecond (s : State) : Keeps s (cycleSecond s) :=
  (keeps_setCycle s _).trans (keeps_evaluateDue _)

theorem keeps_scannerSecond (s : State) : Keeps s (scannerSecond s) := keeps_setScan s _

theorem keeps_operatorWash (s : State) : Keeps s (operatorWash s) := by
  unfold operatorWash; split
  · exact keeps_raiseDue _ s
  · exact keeps_setCycle s _
  · exact keeps_setCycle s _
  · exact .refl s

/-! ### The contest -/

theorem keeps_enterContest (s : State) : Keeps s (enterContest s) :=
  ((keeps_setArb s _).trans (keeps_offer _ _)).trans (keeps_enterState _ _)

theorem keeps_tryContest (s : State) : Keeps s (tryContest s) := by
  unfold tryContest; split
  · exact keeps_enterContest s
  · exact .refl s

theorem keeps_loseContest (b : Bool) (s : State) : Keeps s (loseContest b s) := by
  have h := (keeps_withdraw s).trans (keeps_setBackoff _)
  unfold loseContest; simp only
  split
  · exact (h.trans (keeps_setArb _ _)).trans (keeps_enterState _ _)
  · exact h.trans (keeps_enterState _ _)

theorem keeps_winContest (u : Nat) (s : State) : Keeps s (winContest u s) :=
  ((keeps_takeHold u s).trans (keeps_clearOutcome _)).trans (keeps_enterStep _ _)

theorem keeps_takeOverlap (e : PeerEntry) (s : State) : Keeps s (takeOverlap e s) := by
  unfold takeOverlap; simp only
  split
  · exact (keeps_setArb s _).trans (keeps_cutShort _ _)
  · exact keeps_setArb s _

theorem keeps_changeReport (e : Option PeerEntry) (s : State) : Keeps s (changeReport e s) := by
  unfold changeReport
  split
  · split
    · exact .refl s
    · exact keeps_loseContest _ s
  · split
    · split
      · exact .refl s
      · split
        · exact .refl s
        · exact keeps_takeOverlap _ s
    · exact keeps_tryContest s

theorem keeps_endContestUncounted (s : State) : Keeps s (endContestUncounted s) := by
  unfold endContestUncounted; split
  · exact keeps_loseContest _ s
  · exact .refl s

theorem keeps_linkOffReport (s : State) : Keeps s (linkOffReport s) := by
  unfold linkOffReport
  split
  · exact keeps_cutShort _ s
  · split
    · split
      · exact ((keeps_setArb s _).trans (keeps_setBackoff _)).trans (keeps_enterState _ _)
      · exact keeps_enterState _ s
    · exact .refl s

/-! ### The second tick -/

theorem keeps_dosingSecond (s : State) : Keeps s (dosingSecond s) := by
  have h1 : Keeps s (sampleOwnChannels s) := by
    unfold sampleOwnChannels; split
    · exact keeps_setDose s _
    · exact .refl s
  have h2 : ∀ u, Keeps u (countReadingPeriod u) := by
    intro u
    unfold countReadingPeriod; split
    · split
      · exact (keeps_setDose u _).trans (keeps_offer _ _)
      · exact keeps_setDose u _
    · exact .refl u
  exact (h1.trans (h2 _)).trans (keeps_setDose _ _)

theorem keeps_secondWork (s : State) : Keeps s (secondWork s) :=
  (((keeps_scannerSecond s).trans (keeps_cycleSecond _)).trans (keeps_tryContest _)).trans (keeps_dosingSecond _)

/-- A change of the peer table touches, beside what its report may, the table alone. -/
theorem changeEntry_peers (p : Nat) (e : Option PeerEntry) (b : Bool) (s : State) :
    Keeps (s.setPeers { s.peers with entries := storeEntry p e s.peers.entries }) (changeEntry p e b s) := by
  unfold changeEntry; simp only
  split
  · exact .refl _
  · exact keeps_changeReport _ _

end Sys2Proof.Machine
end

