-- ==== Sys2Proof/Laws/Peers.lean ====
section
/-! SUPPORT. The peer table as a list by rising station number: what is found after an entry is put or dropped, and
what putting and dropping keep. -/

namespace Sys2Proof.Machine

theorem findEntry_station {p : Nat} {es : List PeerEntry} {e : PeerEntry} (h : findEntry p es = some e) :
    e.station = p := by
  have := List.find?_some h; simpa using this

theorem findEntry_mem {p : Nat} {es : List PeerEntry} {e : PeerEntry} (h : findEntry p es = some e) : e ∈ es :=
  List.mem_of_find?_eq_some h

/-- The entry put is found under its number (R71). -/
theorem findEntry_putEntry_same (e : PeerEntry) (es : List PeerEntry) :
    findEntry e.station (putEntry e es) = some e := by
  induction es with
  | nil => simp [putEntry, findEntry]
  | cons x rest ih =>
    unfold putEntry; split
    · simp [findEntry]
    · split
      · simp [findEntry]
      · rename_i h
        have hx : ¬ x.station = e.station := fun h' => h h'.symm
        simp only [findEntry, List.find?_cons, hx, decide_false] at ih ⊢
        exact ih

/-- No other entry is touched by putting one. -/
theorem findEntry_putEntry_other {q : Nat} (e : PeerEntry) (es : List PeerEntry) (h : q ≠ e.station) :
    findEntry q (putEntry e es) = findEntry q es := by
  have he : ¬ e.station = q := fun h' => h h'.symm
  induction es with
  | nil => simp [putEntry, findEntry, he]
  | cons x rest ih =>
    unfold putEntry; split
    · simp [findEntry, he]
    · split
      · rename_i hx
        have : ¬ x.station = q := by rw [← hx]; exact he
        simp [findEntry, he, this]
      · simp only [findEntry, List.find?_cons] at ih ⊢
        split
        · rfl
        · exact ih

/-- An entry dropped is found no more (R79). -/
theorem findEntry_dropEntry_same (p : Nat) (es : List PeerEntry) : findEntry p (dropEntry p es) = none := by
  simp [findEntry, dropEntry, List.find?_eq_none]

theorem findEntry_dropEntry_other {p q : Nat} (es : List PeerEntry) (h : q ≠ p) :
    findEntry q (dropEntry p es) = findEntry q es := by
  rw [findEntry, findEntry, dropEntry, List.find?_filter]
  congr 1
  funext x
  by_cases hq : x.station = q
  · simp [hq, h]
  · simp [hq]

/-- What a property of every entry becomes when one is put. -/
theorem all_putEntry {P : PeerEntry → Prop} {e : PeerEntry} {es : List PeerEntry} (he : P e)
    (h : ∀ x ∈ es, P x) : ∀ x ∈ putEntry e es, P x := by
  induction es with
  | nil => simpa [putEntry] using he
  | cons y rest ih =>
    have hr := ih fun x hx => h x (List.mem_cons_of_mem _ hx)
    unfold putEntry; split
    · intro x hx
      rcases List.mem_cons.1 hx with rfl | hx
      · exact he
      · exact h x hx
    · split
      · intro x hx
        rcases List.mem_cons.1 hx with rfl | hx
        · exact he
        · exact h x (List.mem_cons_of_mem _ hx)
      · intro x hx
        rcases List.mem_cons.1 hx with rfl | hx
        · exact h _ List.mem_cons_self
        · exact hr x hx

theorem all_dropEntry {P : PeerEntry → Prop} {p : Nat} {es : List PeerEntry} (h : ∀ x ∈ es, P x) :
    ∀ x ∈ dropEntry p es, P x := fun x hx =>
  h x (List.mem_filter.1 hx).1

/-- A rising table's head stands below the rest. -/
theorem rising_cons_iff (a : PeerEntry) (l : List PeerEntry) :
    rising (a :: l) = true ↔ (∀ x ∈ l, a.station < x.station) ∧ rising l = true := by
  induction l generalizing a with
  | nil => simp [rising]
  | cons b rest ih =>
    have hb := ih b
    simp only [rising, Bool.and_eq_true, decide_eq_true_eq]
    constructor
    · rintro ⟨h1, h2⟩
      refine ⟨fun x hx => ?_, h2⟩
      rcases List.mem_cons.1 hx with rfl | hx
      · exact h1
      · exact Nat.lt_trans h1 ((hb.1 h2).1 x hx)
    · rintro ⟨h1, h2⟩
      exact ⟨h1 b List.mem_cons_self, h2⟩

/-- Putting an entry in its place keeps the table rising (R69). -/
theorem rising_putEntry {e : PeerEntry} {es : List PeerEntry} (h : rising es = true) :
    rising (putEntry e es) = true := by
  induction es with
  | nil => rfl
  | cons y rest ih =>
    obtain ⟨h1, h2⟩ := (rising_cons_iff y rest).1 h
    unfold putEntry; split
    · rename_i hlt
      rw [rising_cons_iff]
      refine ⟨fun x hx => ?_, h⟩
      rcases List.mem_cons.1 hx with rfl | hx
      · exact hlt
      · exact Nat.lt_trans hlt (h1 x hx)
    · split
      · rename_i heq
        rw [rising_cons_iff]
        exact ⟨fun x hx => heq ▸ h1 x hx, h2⟩
      · rw [rising_cons_iff]
        exact ⟨all_putEntry (P := fun x => y.station < x.station) (by omega) h1, ih h2⟩

/-- Dropping an entry keeps the table rising (R79). -/
theorem rising_dropEntry {p : Nat} {es : List PeerEntry} (h : rising es = true) :
    rising (dropEntry p es) = true := by
  induction es with
  | nil => rfl
  | cons y rest ih =>
    obtain ⟨h1, h2⟩ := (rising_cons_iff y rest).1 h
    have hr := ih h2
    unfold dropEntry at hr ⊢
    rw [List.filter_cons]
    split
    · rw [rising_cons_iff]
      exact ⟨all_dropEntry (P := fun x => y.station < x.station) h1, hr⟩
    · exact hr

end Sys2Proof.Machine
end

