-- ==== Sys2Proof/Laws/Tick.lean ====
section
/-! SUPPORT. What a tick leaves: the order of its events is one of their permutations, and its counts stay in their
ranges; what it queues is what falls due by the rules of the rows. -/

namespace Sys2Proof.Machine

theorem insertAt_perm (c : Instr) (n : Nat) (l : List Instr) : (insertAt c n l).Perm (c :: l) := by
  induction l generalizing n with
  | nil => cases n <;> exact .refl _
  | cons x rest ih =>
    cases n with
    | zero => exact .refl _
    | succ n => exact ((ih n).cons x).trans (.swap c x rest)

/-- The order is free, and no event of the tick is lost or doubled (log 5). -/
theorem arrange_perm (serial : Nat) (l : List Instr) : (arrange serial l).Perm l := by
  induction l with
  | nil => exact .refl _
  | cons c rest ih =>
    unfold arrange
    split
    · rename_i h; rw [h] at ih; rw [List.Perm.nil_eq ih]
    · rename_i x others h
      rw [← h]
      exact (insertAt_perm c _ _).trans (ih.cons c)

theorem ticking_iff (s : State) : ticking s = true ↔ s.supplyOk = true ∧ s.scanning = true := by
  simp [ticking]

/-- A tick's counts leave a channel's state, target and levels (R54, R56, R58). -/
theorem Valve.tick_state (c : Valve) : c.tick.state = c.state ∧ c.tick.target = c.target
    ∧ c.tick.openSwitch.level = c.openSwitch.level ∧ c.tick.closedSwitch.level = c.closedSwitch.level := by
  refine ⟨?_, ?_, DebouncedLine.sample_level _, DebouncedLine.sample_level _⟩ <;>
  · simp only [Valve.tick, Valve.countTick]
    split
    · rfl
    · split <;> rfl

/-- What the arbiter reads of an entry does not count (R73, R77, R78). -/
theorem PeerEntry.countTick_visible (e : PeerEntry) : e.countTick.visible = e.visible := by
  cases e with
  | mk st g status claim age => cases status <;> rfl

@[simp] theorem PeerEntry.countTick_station (e : PeerEntry) : e.countTick.station = e.station := rfl

/-- The pacer's count and the other counts of a tick leave the mode, d and I (R119). -/
theorem Dosing.tick_keeps (d : Dosing) (holder late : Bool) :
    ((d.countTick holder).pacerTick late).mode = d.mode ∧ ((d.countTick holder).pacerTick late).dose = d.dose
      ∧ ((d.countTick holder).pacerTick late).interval = d.interval
      ∧ ((d.countTick holder).pacerTick late).strokeCount = d.strokeCount
      ∧ ((d.countTick holder).pacerTick late).faultLatch = d.faultLatch := by
  unfold Dosing.pacerTick Dosing.countPacer
  split
  · exact ⟨rfl, rfl, rfl, rfl, rfl⟩
  · split <;> exact ⟨rfl, rfl, rfl, rfl, rfl⟩

@[simp] theorem mem_dueIf {c d : Instr} {b : Bool} : c ∈ dueIf b d ↔ b = true ∧ c = d := by
  cases b <;> simp [dueIf]

/-- A line changes at this tick, to the level that it is sampled at (R54, R155). -/
theorem DebouncedLine.changesNow_iff (l : DebouncedLine) (level : Bool) :
    l.changesNow = true ∧ level = l.raw ↔ fifthSample l level := by
  obtain ⟨raw, lv, run⟩ := l
  cases raw <;> cases lv <;> cases level <;> simp [changesNow, fifthSample]

/-- The command that tells a change names its line and its level, by one row of the table (R155). -/
theorem mem_dueInputs (x : Inputs) (c : Instr) : c ∈ dueInputs x ↔
    match c with
    | .manualWashEdge => fifthSample x.manualWash true
    | .inhibitKeyChange level => fifthSample x.inhibitKey level
    | .tankLowAssert => fifthSample x.tankLow true
    | .doseFbEdge => fifthSample x.doseFb true
    | .debouncedInputChange i level => otherInputChange i level = true ∧ fifthSample (x.get i) level
    | _ => False := by
  have h : c ∈ dueInputs x ↔ ∃ i level, fifthSample (x.get i) level ∧ c = inputCommand i level := by
    simp only [dueInputs, List.mem_flatMap, mem_dueIf, ← DebouncedLine.changesNow_iff]
    constructor
    · rintro ⟨i, _, h⟩
      exact ⟨i, _, ⟨h.1, rfl⟩, h.2⟩
    · rintro ⟨i, _, ⟨h, rfl⟩, hc⟩
      exact ⟨i, by cases i <;> decide, h, hc⟩
  rw [h]; clear h
  constructor
  · rintro ⟨i, level, h, rfl⟩
    cases i <;> cases level <;> first | exact h | exact ⟨rfl, h⟩
  · cases c
    case manualWashEdge => exact fun h => ⟨.manualWash, true, h, rfl⟩
    case inhibitKeyChange level => exact fun h => ⟨.inhibitKey, level, h, rfl⟩
    case tankLowAssert => exact fun h => ⟨.tankLow, true, h, rfl⟩
    case doseFbEdge => exact fun h => ⟨.doseFb, true, h, rfl⟩
    case debouncedInputChange i level =>
      rintro ⟨hi, h⟩
      refine ⟨i, level, h, ?_⟩
      cases i <;> cases level <;> first | rfl | simp [otherInputChange] at hi
    all_goals exact False.elim

@[simp] theorem Channels.get_markDue (x : Channels) (n : Nat) (c : ChannelId) :
    (x.markDue n).get c = (x.get c).markDue n := by
  cases c <;> rfl

theorem stepDone_iff (step : CycleState) (seconds : Nat) (t : State) :
    stepDone step seconds t = true ↔ stepTimeReached step seconds t := by
  simp [stepDone, stepTimeReached, and_assoc]

/-- A conversion is due at the channel's own tick of ten (R33). -/
theorem due_countAll (s : State) (ch : ChannelId) :
    ((countAll s).scan.channels.get ch).due = decide ((s.scan.channels.get ch).phase = (s.scan.scanCount + 1) % 10) := by
  simp only [countAll, Scanner.countTick, Scanner.countCapture]
  split
  · rw [Channels.get_markDue]; rfl
  · split <;> (rw [Channels.get_markDue]; rfl)

/-- The conversions that a tick queues (R33). -/
theorem mem_dueConversions (s : State) (c : Instr) : c ∈ dueConversions (countAll s) ↔
    match c with
    | .conversion ch n =>
      (s.scan.channels.get ch).phase = (s.scan.scanCount + 1) % 10 ∧ n = s.pins.analog ch
    | _ => False := by
  simp only [dueConversions, List.mem_flatMap, mem_dueIf, due_countAll, decide_eq_true_eq]
  constructor
  · rintro ⟨ch, _, h, rfl⟩
    exact ⟨h, rfl⟩
  · cases c
    case conversion ch n =>
      rintro ⟨h, rfl⟩
      exact ⟨ch, ChannelId.mem_all ch, h, rfl⟩
    all_goals exact False.elim

@[simp] theorem claim_countAll (s : State) : (countAll s).arb.claim = s.arb.claim := rfl

/-- What a tick queues is what falls due at it by the rules of the rows. -/
theorem mem_dueAll (s : State) (c : Instr) : c ∈ dueAll s (countAll s) ↔ fallsDue s (countAll s) c := by
  simp only [dueAll, List.mem_append, mem_dueIf, mem_dueInputs, mem_dueConversions, dueValve, dueSteps,
    List.mem_flatMap, dueLapses, stepDone_iff]
  cases c <;> simp [fallsDue, ValveId.mem_all]
  case startingEnd => simp [startingOver, and_assoc]
  case secondTick => simp [State.secondNow]
  case backwashEnd => simp [backwashClear, stepDone_iff]; rfl
  case limitSwitchChange v p level =>
    rw [← DebouncedLine.changesNow_iff]
    constructor
    · rintro ⟨_, ⟨h, rfl, rfl, rfl⟩ | ⟨h, rfl, rfl, rfl⟩⟩ <;> exact ⟨h, rfl⟩
    · rintro ⟨h, rfl⟩
      cases p
      all_goals first | exact ⟨v, .inl ⟨h, rfl, rfl, rfl⟩⟩ | exact ⟨v, .inr ⟨h, rfl, rfl, rfl⟩⟩
  case reversalPauseEnd => simp [Valve.pauseEnds]
  case travelTimeout => simp [Valve.timedOut, countAll, State.cfg]
  case statusLapse =>
    refine exists_congr fun e => and_congr_right fun _ => ?_
    cases h : e.status <;> simp [PeerEntry.statusDue, h, eq_comm, and_comm]
  case intentLapse =>
    refine exists_congr fun e => and_congr_right fun _ => ?_
    simp only [PeerEntry.intentDue, Bool.and_eq_true, decide_eq_true_eq]
    exact ⟨fun h => ⟨h.2.symm, h.1⟩, fun h => ⟨h.2, h.1.symm⟩⟩
  case holdLapse =>
    refine exists_congr fun e => and_congr_right fun _ => ?_
    simp only [PeerEntry.holdDue, Bool.and_eq_true, decide_eq_true_eq]
    exact ⟨fun h => ⟨h.2.symm, h.1⟩, fun h => ⟨h.2, h.1.symm⟩⟩
  case readingStale => simp [readingDue]
  case contestWindowExpiry =>
    simp only [windowDue, claim_countAll]
    split <;> simp_all
    rfl
  case backoffEnd => simp [backoffDue]
  case offPeriodEnd => 
    simp only [Link.offOver, Bool.and_eq_true, decide_eq_true_eq]
    rfl
  case connectedLapse => simp [Link.lapseDue]
  case stroke =>
    simp only [Dosing.strokeDue]
    cases (countAll s).dose.interval <;> simp
  case feedbackMiss =>
    simp only [Dosing.missDue]
    cases s.dose.windows <;> simp
  all_goals rfl
/-- A conversion is taken once (R33): it leaves none due on its channel, and keeps the channel's tick. -/
theorem ChannelRecord.convert_due (r : ChannelRecord) (span c : Nat) : (r.convert span c).due = false := rfl

theorem ChannelRecord.convert_phase (r : ChannelRecord) (span c : Nat) : (r.convert span c).phase = r.phase := by
  simp only [ChannelRecord.convert, ChannelRecord.good, ChannelRecord.bad]
  split <;> split <;> first | rfl | (split <;> rfl)

/-- Told at another moment a conversion leaves the count at the pin and nothing else (log 6). -/
theorem takeConversion_off_its_tick {ch : ChannelId} {s : State} (count : BitVec 12)
    (h : (s.scan.channels.get ch).due = false) :
    takeConversion ch count s = s.setPins (s.pins.setAnalog ch count) := by
  simp [takeConversion, h]

end Sys2Proof.Machine
end

