-- ==== Sys2Proof/Tests/Slice0.lean ====
section
/-! SUPPORT. The tests: the smoke test of the operand checks; the manual's worked figures; and for every statement with
hypotheses a state and operands that meet them, clause by clause. -/

namespace Sys2Proof.Tests

open Sys2Proof.Machine

/-! ### The operand checks, each with a command that it refuses -/

theorem test_blockLengthIsChecked : Instr.wellFormed (.configurationLoadSettles true true true [1]) = false := by
  decide

theorem test_noBlockWithoutAcknowledgement :
    Instr.wellFormed (.configurationLoadSettles true false true [1]) = false := by decide

theorem test_inputChangeIsChecked : Instr.wellFormed (.debouncedInputChange .tankLow true) = false := by decide

theorem test_intentVerbIsChecked : Instr.wellFormed (.claimIntentArrival 0 1 [2, 9, 9, 0]) = false := by decide

theorem test_holdVerbIsChecked : Instr.wellFormed (.claimHoldArrival 0 1 [1, 9, 9, 0]) = false := by decide

theorem test_releaseVerbIsChecked : Instr.wellFormed (.claimReleaseArrival 0 1 []) = false := by decide

theorem test_claimLengthIsChecked :
    Instr.wellFormed (.claimIntentArrival 0 1 [1, 9, 9, 0, 0, 0, 0, 0, 0]) = false := by decide

theorem test_statusLengthIsChecked : Instr.wellFormed (.statusArrival 0 1 (List.replicate 9 0)) = false := by decide

theorem test_readingLengthIsChecked : Instr.wellFormed (.readingArrival 0 1 (List.replicate 9 0)) = false := by
  decide

theorem test_answerLengthIsChecked :
    Instr.wellFormed (.answerArrival ⟨false, false, 0x400, List.replicate 9 0⟩) = false := by decide

theorem test_unknownCodeIsChecked : Instr.wellFormed (.unknownRequest 0 1 0 12 0) = false := by decide

theorem test_wellFormedCommands :
    Instr.wellFormed (.configurationLoadSettles true true true (List.replicate 70 0)) = true
    ∧ Instr.wellFormed (.claimHoldArrival 0 1 [2, 9, 9, 0]) = true
    ∧ Instr.wellFormed (.unknownRequest 0 1 0 13 0) = true := by decide

/-- No row of the table has bits, so no word spells a command. -/
theorem test_noWordSpellsACommand : decodeTableWord 8 0 = none ∧ decodeTableWord 32 255 = none := by decide

/-! ### Small states -/

/-- Station 5 of group 0 on the built-in defaults, loaded, in a cycle state. -/
def station (c : CycleState) : State :=
  { State.reset with
    load := { State.reset.load with station := 5, outcome := some .good }
    cycle := { State.reset.cycle with state := c } }

/-- A channel settled at a position. -/
def settled (p : Position) : Valve :=
  match p with
  | .opened => { Valve.fresh false false with state := .opened, openSwitch := .changeTo true }
  | .closed => { Valve.fresh false false with state := .closed, closedSwitch := .changeTo true }

/-- Every channel settled at its position in a set. -/
def settledAll (set : ValveSet) (s : State) : State := s.setValves (s.valves.map fun v _ => settled (set v))

/-- In a wash step whose set has settled, the step timer at a count, with a due reason and the claim HOLD. -/
def washing (step : CycleState) (ticks : Nat) : State :=
  let s := settledAll (stepSet step) (station step)
  (s.setCycle
    { s.cycle with due := .loading, stepTimer := ticks, confirmed := s.valves.confirmations (stepSet step) }).setArb
    { s.arb with claim := .hold 100 }

/-- The first tick of a wash step: every channel still at its SERVICE switch, and on its way from there where the step
commands it. -/
def justEntered (step : CycleState) : State :=
  let s := washing step 0
  let x := s.valves.map fun v _ =>
    { settled (serviceSet v) with
      state := if stepSet step v = serviceSet v then settledAt (serviceSet v) else towards (stepSet step v)
      target := some (stepSet step v) }
  (s.setValves x).setCycle { s.cycle with confirmed := x.confirmations (stepSet step) }

/-- In a state, with RINSE on its way to CLOSED, its pause at a count, and the five others settled in a set. -/
def arriving (c : CycleState) (set : ValveSet) (pause : Nat) (atSwitch : Bool) : State :=
  let s := settledAll set (station c)
  let rinse := { Valve.fresh false false with state := .closing, target := some .closed, pause := pause }
  (s.setValves
    (s.valves.set .rinse (if atSwitch then { rinse with closedSwitch := .changeTo true } else rinse))).setCycle
    { s.cycle with
      due := .loading, outcome := some .complete, confirmed := { s.valves.confirmations set with rinse := false } }

/-- A channel with both switches asserted. -/
def stuck : Valve := { Valve.fresh false false with openSwitch := .changeTo true, closedSwitch := .changeTo true }

/-- With RINSE's switches both asserted. -/
def withStuck (s : State) : State := s.setValves (s.valves.set .rinse stuck)

/-- CONTEST of an INTENT whose window runs. -/
def contesting : State :=
  let s := settledAll serviceSet (station .contest)
  (s.setCycle { s.cycle with due := .loading }).setArb { s.arb with claim := .intent 100 .windowed, windowTimer := 50 }

/-- RESTRICTED operation. -/
def restrictedStation (c : CycleState) : State :=
  (station c).setLoad { (station c).load with outcome := some .absent }

/-- A frame of a kind in transmission. -/
def sending (k : TxKind) (s : State) : State :=
  s.setLink { s.link with inTx := some { kind := k, ident := 0, data := [] } }

/-- A peer in another group with a STATUS of IN_SERVICE and a claim. -/
def peer (n : Nat) (c : PeerClaim) : PeerEntry :=
  { station := n, group := 0, status := some { code := .inService, age := 0 }, claim := c, claimAge := 0 }

def withPeers (es : List PeerEntry) (s : State) : State := s.setPeers { s.peers with entries := es }

/-- Connected, with a peer that counts as filtering: the conditions for a new intent. -/
def ready (c : CycleState) : State :=
  let s := withPeers [peer 3 .none] (settledAll serviceSet (station c))
  s.setLink { s.link with successAge := 0 }

/-- A command's next state has a property. -/
def answers (o : Host.Outcome State Fault Refusal) (p : State → Bool) : Bool :=
  match o with
  | .next t => p t
  | _ => false

/-! ### The manual's worked figures -/

/-- 02, section 3.3. -/
theorem test_conversionFigures :
    convert 1000 2336 = 480 ∧ convert 1500 2336 = 720 ∧ convert 1400 2336 = 672 ∧ convert 500 760 = 0
    ∧ convert 1000 4060 = 1000 ∧ goodCount 700 = false ∧ goodCount 4090 = false := by decide

/-- 02, section 3.3: the twelve conversions of the DP channel. -/
theorem test_channelFaultFigures :
    let run := [2336, 4095, 4095, 2352, 4095, 4095, 4095, 2400, 700, 2400, 2416, 2432].foldl
      (fun (x : ChannelRecord × List (Condition × Nat × Nat)) c =>
        let r := x.1.convert 1000 c
        (r, x.2 ++ [(r.condition, r.run, r.value)])) (ChannelRecord.fresh, [])
    run.2 =
      [(.normal, 0, 480), (.doubtful, 1, 480), (.doubtful, 2, 480), (.normal, 0, 485), (.doubtful, 1, 485),
       (.doubtful, 2, 485), (.faulted, 0, 485), (.clearing, 1, 500), (.faulted, 0, 500), (.clearing, 1, 500),
       (.clearing, 2, 505), (.normal, 0, 510)] := by decide

/-- 02, section 3.5. -/
theorem test_loadingFigures :
    correctedHeadloss 480 900 720 = 600 ∧ loadingValue 600 250 800 = 636 ∧ correctedHeadloss 2000 900 300 = 4000
    ∧ loadingValue 4000 250 800 = 1000 ∧ loadingValue 200 250 800 = 0
    ∧ pushRing [610, 615, 620, 624, 628, 631, 634, 636] 636 = [615, 620, 624, 628, 631, 634, 636, 636]
    ∧ { State.reset.scan with ring := [610, 615, 620, 624, 628, 631, 634, 636] }.ls = some 624
    ∧ qminAbsOf builtInDefaults = 270 := by decide

/-- 06, section 7.4. -/
theorem test_doseFigures :
    let c := { builtInDefaults with trimGain := 5 }
    let g := { builtInDefaults with trimGain := 64 }
    doseOf builtInDefaults .trimmed 130 = 100 ∧ doseOf builtInDefaults .trimmed 157 = 73
    ∧ doseOf c .trimmed 157 = 78 ∧ doseOf builtInDefaults .trimmed 260 = 0 ∧ doseOf g .trimmed 20 = 500
    ∧ doseOf builtInDefaults .base 90 = 80 ∧ doseOf builtInDefaults .held 300 = 0 := by decide

theorem test_intervalFigures :
    let weak := { builtInDefaults with strength := 50, strokeVolume := 100 }
    let strong := { builtInDefaults with strength := 180, strokeVolume := 20000 }
    intervalOf builtInDefaults 720 100 = 900 ∧ intervalOf builtInDefaults 1200 100 = 540
    ∧ intervalOf weak 270 500 = 50 ∧ intervalOf strong 300 1 = 65535 := by decide

/-- 05, section 6.2: the due reason, Ls, the wait minutes and U. -/
theorem test_urgencyFigures :
    let u := fun (d : DueReason) (ring : List Nat) (m : Nat) =>
      formedUrgency
        (((station .waiting).setCycle { (station .waiting).cycle with due := d, waitMinutes := m }).setScan
          { State.reset.scan with ring := ring })
    u .loading [624] 3 = 106 ∧ u .runtime [300] 63 = 63 ∧ u .turbidity [1000] 0 = 191 ∧ u .operator [] 0 = 192
    ∧ u .operator [950] 10 = 255 := by decide

/-- 10, section 11.4: the STATUS of station 5. -/
theorem test_statusFigures :
    let s := station .waiting
    let s1 := s.setCycle { s.cycle with due := .loading, waitMinutes := 3, runSeconds := 111 * 3600 }
    let s2 := (s1.setScan { s1.scan with ring := [624] }).setDose { s1.dose with mode := .trimmed }
    let s3 := s2.setReq { s2.req with resetCause := .none }
    statusFrame s3 =
      { kind := .status, ident := 0x205, data := [0x03, 0x12, 0x03, 0x6F, 0x70, 0x02, 0x00, 0x00] } := by decide

/-- 10, section 11.4: the CLAIM INTENT of station 5 at urgency 106, and its HOLD and RELEASE. -/
theorem test_claimFigures :
    claimFrame (station .waiting) none (claimIntentData 106 120) =
      { kind := .claim none, ident := 0x005, data := [0x01, 0x6A, 0x78, 0x00] }
    ∧ claimHoldData 106 120 = [2, 0x6A, 0x78, 0] ∧ claimReleaseData .startClean = [3, 0, 0, 2] := by decide

/-- 10, section 11.4: station 7 of group 1 answers panel 1's READ_COUNTERS of bank 2. -/
theorem test_bankFigures :
    let s := station .inService
    let s1 := s.setLoad { s.load with station := 7, group := 1, clamped := 4 }
    let s2 := s1.setDose { s1.dose with dose := 100, strokeCount := 4003 }
    answers (exec (.readCounters 1 7 0 2) s2) (fun t =>
      t.link.inTx = some { kind := .answer false, ident := 0x427,
                           data := [0x08, 0x10, 0xFA, 0x00, 0x64, 0x00, 0xA3, 0x0F] }) = true := by decide

/-- 09, section 10.8: four clamps move a value. -/
theorem test_clampFigures :
    let stored := { builtInDefaults with
                    contestWindow := 250, washFlow := 200, drainCapacity := 150, phLow := 760, phHigh := 750,
                    minStrokeInterval := 30, strokeWidth := 20 }
    let fields := clampFields stored
    let w := clampAcross fields
    movedFields stored fields + movedFields fields w = 4 ∧ w.contestWindow = 200 ∧ w.washFlow = 150
    ∧ w.phHigh = 780 ∧ w.minStrokeInterval = 40 := by decide

/-- 09, section 10.8: ST0 to ST2 and GP0 at 1 are station 7 of group 1. -/
theorem test_strapFigures : strapStation 0x27 = 7 ∧ strapGroup 0x27 = 1 := by decide

/-- R162: the transaction takes 660 bit times; a missing acknowledgement stops it at once. -/
theorem test_readTransaction :
    ((readTransaction true true true).map LineStep.bitTimes).sum = 660
    ∧ readTransaction false true true = [.start, .send 160, .stop] := by decide

/-- R164: the built-in defaults are within every range and every bound. -/
theorem test_defaultsAreNotMoved : clampAcross (clampFields builtInDefaults) = builtInDefaults := by decide

/-! ### Witnesses: each statement's hypotheses are met together -/

theorem witness_EmptyQueueStepIsOneTick :
    State.reset.pending = [] ∧ ticking State.reset = false
    ∧ (station .inService).pending = [] ∧ ticking (station .inService) = true := by decide

/-- The sixth tick, a hundredth tick, a fifth sample, a conversion's tick and an end of DRAIN_DOWN: each has its
command. -/
theorem test_whatFallsDue :
    let sixth := { station .starting with phase := 5 }
    let s := station .inService
    let pressed := s.setInputs { s.inputs with manualWash := { raw := true, level := false, run := 4 } }
    Instr.startingEnd ∈ dueAll sixth (countAll sixth)
    ∧ Instr.startingEnd ∉ dueAll (station .starting) (countAll (station .starting))
    ∧ Instr.secondTick ∈ dueAll { s with phase := 99 } (countAll { s with phase := 99 })
    ∧ Instr.manualWashEdge ∈ dueAll pressed (countAll pressed)
    ∧ (ChannelId.all.all fun ch =>
        decide (Instr.conversion ch 0 ∈ dueAll s (countAll s)) == decide ((s.scan.channels.get ch).phase = 1)) = true
    ∧ Instr.drainDownEnd ∈ dueAll (washing .drainDown 11999) (countAll (washing .drainDown 11999)) := by decide

theorem witness_TickCountsTheRunningTimers :
    let second := { washing .backwash 9 with phase := 99 }
    (washing .backwash 9).pending = [] ∧ ticking (washing .backwash 9) = true ∧ (washing .backwash 9).phase < 99
    ∧ (washing .backwash 9).settled = true
    ∧ second.pending = [] ∧ ticking second = true ∧ 99 ≤ second.phase := by decide

theorem witness_EveryCommandCompletes :
    (State.reset.setSupplyOk false).supplyOk = false
    ∧ Instr.secondTick ≠ .supplyFallsBelowOperatingRange ∧ ∀ x, Instr.secondTick ≠ .powerReset x :=
  ⟨rfl, by decide, fun _ h => by cases h⟩

theorem witness_StatusIsOfferedAtEveryChange :
    (station .inService).supplyOk = true
    ∧ answers (exec .secondTick (station .inService)) (fun t =>
        decide (t.cycle.state ≠ .starting ∧ t.link.mode ≠ .off ∧ t.link.inTx = some (statusFrame t))) = true := by
  decide

theorem witness_ResetsGiveEveryBlockItsValues : State.reset.supplyOk = true := by decide

theorem witness_RestartIsCarriedOut :
    let s := sending (.answer true)
      (((station .inService).setReq { State.reset.req with pendingRestart := true }).setLink
        { State.reset.link with tally := 250, mode := .cautious })
    s.supplyOk = true ∧ s.req.pendingRestart = true
    ∧ s.link.inTx = some { kind := .answer true, ident := 0, data := [] } ∧ 255 < s.link.tally + 8 := by decide

/-- A block of version 1 with every other field 0 and its checksum. -/
def block (version sum : Byte) : List Byte := version :: List.replicate 67 0 ++ [sum, 0]

theorem witness_GoodBlockSettlesTheLoad :
    State.reset.supplyOk = true ∧ State.reset.load.outcome = none ∧ storedVersion (block 1 1) = 1
    ∧ storedChecksum (block 1 1) = fieldSum (block 1 1) := by decide

theorem witness_FailedLoadRunsOnTheDefaults :
    State.reset.supplyOk = true ∧ State.reset.load.outcome = none
    ∧ (true && false && true) = false
    ∧ storedVersion (block 2 2) ≠ 1 ∧ storedChecksum (block 1 2) ≠ fieldSum (block 1 2) := by decide

theorem witness_StartingEndsWithTheSurvey :
    let early := station .starting
    let s := { early with phase := 6 }
    let clean := settledAll serviceSet s
    s.supplyOk = true ∧ s.cycle.state = .starting ∧ s.load.outcome.isSome = true ∧ s.arb.claim = .none
    ∧ 6 ≤ s.phase ∧ early.phase < 6
    ∧ noBothAsserted s = true ∧ noBothAsserted (withStuck s) = false
    ∧ (clean.valves.washOut.atLimit .closed && clean.valves.rinse.atLimit .closed) = true
    ∧ standsAt serviceSet clean = true ∧ standsAt serviceSet s = false := by decide

/-- Told before the sixth tick STARTING_END does nothing (R55, R161); at it RECOVERING is entered. -/
theorem test_startingEndsAtTheSixthTick :
    let s := station .starting
    answers (exec .startingEnd { s with phase := 5 }) (fun t => t.cycle.state = .starting) = true
    ∧ answers (exec .startingEnd { s with phase := 6 }) (fun t => t.cycle.state = .recovering) = true := by decide

theorem witness_SecondTickCountsAndRaisesTheDueReason :
    let s := station .inService
    let old := s.setCycle { s.cycle with runSeconds := 168 * 3600 - 1 }
    s.supplyOk = true ∧ s.cycle.state = .inService ∧ (scannerSecond s).breakthroughPresented = false
    ∧ (scannerSecond s).loadingPresented = false
    ∧ s.cfg.maxRun ≠ 0 ∧ s.cfg.maxRun ≤ incTo 4294967295 old.cycle.runSeconds / 3600
    ∧ (station .waiting).cycle.state = .waiting ∧ contesting.cycle.state = .contest
    ∧ (station .isolated).cycle.state.filtering = false := by decide

/-- Flow 72.0 m³/h and DP 48.0 kPa, both NORMAL (02, section 3.5). -/
def flowing (s : State) : State :=
  s.setScan
    { s.scan with
      channels := { s.scan.channels with
                    dp := { ChannelRecord.fresh with value := 480, condition := .normal }
                    flow := { ChannelRecord.fresh with value := 720, condition := .normal } } }

theorem witness_SecondTickComputesTheLoadingOrCaptures :
    let s := flowing (station .inService)
    let armed := s.setScan { s.scan with captureArmed := true, captureDelay := 5999 }
    s.supplyOk = true ∧ s.computable = true ∧ (station .inService).computable = false
    ∧ s.scan.captureArmed = false ∧ armed.computable = true ∧ armed.scan.captureArmed = true
    ∧ incTo 6000 armed.scan.captureDelay = 6000 := by decide

/-- The figures of 02, section 3.5, at a second tick: Dc 600, L 636. -/
theorem test_loadingAtASecondTick :
    answers (exec .secondTick (flowing (station .inService))) (fun t => t.scan.ring = [636]) = true := by decide

theorem witness_SecondTickUpdatesTheHoldTimers :
    (flowing (station .inService)).supplyOk = true ∧ (station .inService).scan.ls = none := by decide

theorem witness_NamedSecondTicksAreSecondTicks :
    let s := station .inService
    let loaded := s.setScan { s.scan with ring := [1000], loadingTimer := 59 }
    let turbid := s.setScan
      { s.scan with
        breakthroughTimer := 119
        channels := { s.scan.channels with outletTurbidity := { ChannelRecord.fresh with value := 60, condition := .normal } } }
    let minute := (station .waiting).setCycle { (station .waiting).cycle with waitSeconds := 59 }
    let holder := (s.setLoad { s.load with config := { builtInDefaults with sampleHolder := 1 } }).setDose
      { s.dose with periodCount := 4 }
    s.supplyOk = true ∧ loadingHoldReaches loaded = true ∧ breakthroughHoldReaches turbid = true
    ∧ minute.cycle.state = .waiting ∧ 59 ≤ minute.cycle.waitSeconds
    ∧ holder.sampleHolder = true ∧ holder.cycle.state ≠ .starting ∧ 4 ≤ holder.dose.periodCount
    ∧ holder.link.mode ≠ .off := by decide

theorem witness_SecondTickEntersAContest :
    let m := cycleSecond (scannerSecond (ready .waiting))
    let n := cycleSecond (scannerSecond (station .waiting))
    (ready .waiting).supplyOk = true
    ∧ (m.cycle.state = .waiting ∧ (ready .waiting).arb.claim = .none ∧ intentConditions m = true
      ∧ admission m = true)
    ∧ ¬ (n.cycle.state = .waiting ∧ (station .waiting).arb.claim = .none ∧ intentConditions n = true
      ∧ admission n = true) := by decide

/-- With flow and FLOW_OK the defaults dose at B 80, so I is 64 800 000 / (720 × 80) = 1125. -/
theorem witness_SecondTickDecidesDosing :
    let s := flowing (station .inService)
    let s1 := s.setInputs { s.inputs with flowOk := .changeTo true }
    let late := s1.setDose { s1.dose with mode := .base, dose := 80, interval := some 2000, elapsed := 1500 }
    let owing := late.setDose { late.dose with countOwed := true }
    let below := late.setDose { late.dose with elapsed := 1123, countOwed := true }
    let itself := late.setDose { late.dose with elapsed := 1124, countOwed := true }
    s.supplyOk = true ∧ 30 ≤ s.cfg.minStrokeInterval ∧ s1.dose.countOwed = false
    ∧ answers (exec .secondTick s) (fun t => t.dose.mode = .held && t.dose.dose = 0) = true
    ∧ answers (exec .secondTick s1) (fun t => t.dose.mode = .base && t.dose.interval = some 1125) = true
    ∧ answers (exec .secondTick late) (fun t => t.dose.strokeCount = 1 && t.dose.elapsed = 0) = true
    ∧ answers (exec .secondTick owing) (fun t => t.dose.strokeCount = 1 && t.dose.elapsed = 0) = true
    ∧ answers (exec .secondTick below) (fun t => t.dose.strokeCount = 0 && t.dose.elapsed = 1124) = true
    ∧ answers (exec .secondTick itself) (fun t => t.dose.strokeCount = 1 && t.dose.elapsed = 0) = true := by decide

theorem witness_ConversionMovesItsChannel :
    let s := station .inService
    let due := s.setScan
      { s.scan with channels := { s.scan.channels with dp := { s.scan.channels.dp with due := true } } }
    s.supplyOk = true ∧ (s.scan.channels.get .dp).due = false ∧ (due.scan.channels.get .dp).due = true
    ∧ (720 ≤ (720#12).toNat ∧ (4080#12).toNat ≤ 4080) ∧ ¬ (720 ≤ (719#12).toNat) ∧ ¬ ((4081#12).toNat ≤ 4080)
    ∧ (washing .backwash 9).cycle.state = .backwash ∧ (washing .backwash 9).settled = true := by decide

/-- A channel converts once in its ten ticks (R33): told again, the count stands at the pin alone. -/
theorem test_aChannelConvertsOnceAtItsTick :
    let s := station .inService
    let due := s.setScan
      { s.scan with channels := { s.scan.channels with dp := { s.scan.channels.dp with due := true } } }
    let again := fun (t : State) => answers (exec (.conversion .dp 4000) t) fun u =>
      u.scan.channels.dp.value = 480 && decide (u.pins.analog .dp = 4000)
    answers (exec (.conversion .dp 2336) due) (fun t => t.scan.channels.dp.value = 480 && again t) = true
    ∧ answers (exec (.conversion .dp 2336) s) (fun t => t.scan.channels.dp.value = 0) = true := by decide

theorem witness_WashStepsFollowOneAnother :
    (washing .drainDown 12000).supplyOk = true ∧ noBothAsserted (washing .drainDown 12000) = true
    ∧ (washing .drainDown 12000).settled = true ∧ (washing .drainDown 12000).cycle.state = .drainDown
    ∧ (washing .drainDown 12000).cfg.drainDownTime * 100 ≤ (washing .drainDown 12000).cycle.stepTimer
    ∧ noBothAsserted (washing .airScour 0) = true ∧ (washing .airScour 0).settled = true
    ∧ (washing .airScour 0).cfg.airScourTime * 100 ≤ (washing .airScour 0).cycle.stepTimer
    ∧ noBothAsserted (washing .settle 3000) = true ∧ (washing .settle 3000).settled = true
    ∧ (washing .settle 3000).cfg.settleTime * 100 ≤ (washing .settle 3000).cycle.stepTimer := by decide

theorem witness_BackwashEndsClearOrAtItsMaximum :
    let s := washing .backwash 18000
    let clear := s.setCycle { s.cycle with clearHold := 2000 }
    let long := washing .backwash 48000
    s.supplyOk = true ∧ noBothAsserted s = true ∧ s.settled = true ∧ s.cycle.state = .backwash
    ∧ clear.cfg.backwashMin * 100 ≤ clear.cycle.stepTimer ∧ 2000 ≤ clear.cycle.clearHold ∧ clear.settled = true
    ∧ long.cfg.backwashMin ≤ long.cfg.backwashMax ∧ long.cfg.backwashMax * 100 ≤ long.cycle.stepTimer
    ∧ long.cycle.clearHold < 2000 ∧ noBothAsserted long = true ∧ long.settled = true
    ∧ (washing .backwash 17999).cycle.stepTimer < (washing .backwash 17999).cfg.backwashMin * 100 := by decide

theorem witness_RinseEndsInReturning :
    let s := washing .rinse 9000
    let back := settledAll serviceSet s
    s.supplyOk = true ∧ noBothAsserted s = true ∧ s.settled = true ∧ s.cycle.state = .rinse
    ∧ s.cfg.rinseTime * 100 ≤ s.cycle.stepTimer ∧ standsAt serviceSet s = false
    ∧ standsAt serviceSet back = true ∧ back.settled = true ∧ noBothAsserted back = true
    ∧ (back.setCycle { back.cycle with outcome := some .complete }).cycle.outcome = some .complete := by decide

theorem witness_TankLowCutsAWashShort :
    let s := washing .backwash 9
    let j := justEntered .drainDown
    s.supplyOk = true ∧ noBothAsserted s = true ∧ standsAt serviceSet s = false ∧ s.cycle.state.washStep = true
    ∧ s.inputs.tankLow.level = false
    ∧ j.supplyOk = true ∧ noBothAsserted j = true ∧ standsAt serviceSet j = true ∧ j.cycle.state.washStep = true
    ∧ j.inputs.tankLow.level = false := by decide

/-- Cut short in the first tick of DRAIN_DOWN, a wash is over at that event: WAITING again, with its record. -/
theorem test_cutShortAtOnce :
    answers (exec .tankLowAssert (justEntered .drainDown)) (fun t =>
      decide (t.cycle.state = .waiting ∧ t.arb.claim = .none
        ∧ t.cycle.records = [{ due := .loading, outcome := .cutShortTank, backwashSeconds := 0, volume := 0 }]))
      = true := by decide

/-- RETURNING with RINSE still closing and the five others confirmed. -/
def returning (o : WashOutcome) : State :=
  let s := settledAll serviceSet (station .returning)
  let moving := s.setValves
    (s.valves.set .rinse { Valve.fresh false false with state := .closing, target := some .closed })
  (moving.setCycle
    { s.cycle with
      due := .loading, outcome := some o, backwashSeconds := 300,
      confirmed := moving.valves.confirmations serviceSet }).setArb { s.arb with claim := .hold 100 }

theorem witness_LastArrivalCompletesTheWash :
    let s := returning .complete
    s.supplyOk = true ∧ s.cycle.state = .returning ∧ s.cycle.outcome = some .complete
    ∧ (s.valves.get .rinse).state = towards (serviceSet .rinse)
    ∧ ((s.valves.get .rinse).switch (serviceSet .rinse)).level = false
    ∧ ((s.valves.get .rinse).switch (serviceSet .rinse).other).level = false
    ∧ s.cycle.confirmed.get .rinse = false
    ∧ (ValveId.all.all fun other => other = .rinse || s.cycle.confirmed.get other) = true := by decide

/-- The completion of the manual's kind: a record of 300 s at 120 m³/h, that is volume 100 (R29). -/
theorem test_completionOfAWash :
    answers (exec (.limitSwitchChange .rinse .closed true) (returning .complete)) (fun t =>
      decide (t.cycle.state = .inService ∧ t.arb.claim = .none
        ∧ t.cycle.records = [{ due := .loading, outcome := .complete, backwashSeconds := 300, volume := 100 }]))
      = true := by decide

theorem witness_CommandFollowsTheTable :
    let moving := { Valve.fresh false false with state := .opening, target := some .opened }
    (settled .opened).atLimit .opened = true ∧ stuck.bothAsserted = true
    ∧ moving.atLimit .opened = false ∧ moving.bothAsserted = false ∧ moving.state = towards .opened
    ∧ moving.state = towards Position.closed.other ∧ (Valve.fresh false false).state.travelling = false := by decide

theorem witness_StopFollowsTheTable :
    { Valve.fresh false false with state := .opening }.state = .opening ∧ (settled .closed).state = .closed
    ∧ (Valve.fresh false false).state = .stopped
    ∧ { Valve.fresh false false with state := .fault .travel }.state.isFault = true := by decide

theorem witness_SwitchChangeSettlesOrResolves :
    let s := station .starting
    let t := station .recovering
    s.supplyOk = true ∧ true ≠ ((s.valves.get .air).switch .closed).level ∧ s.cycle.state = .starting
    ∧ t.supplyOk = true ∧ true ≠ ((t.valves.get .air).switch .closed).level ∧ t.cycle.state ≠ .starting
    ∧ ((t.valves.get .air).setSwitch .closed ⟨true, true, 0⟩).bothAsserted = false
    ∧ (t.valves.get .air).state ≠ settledAt .closed := by decide

/-- A last arrival in RECOVERING, in ISOLATING and in a wash step, and one that is not the last. -/
theorem witness_LastArrivalSettlesTheSet :
    let r := arriving .recovering serviceSet 0 false
    let i := arriving .isolating allClosedSet 0 false
    let d := arriving .drainDown (stepSet .drainDown) 0 false
    let more := r.setCycle { r.cycle with confirmed := { r.cycle.confirmed with air := false } }
    r.supplyOk = true ∧ true ≠ ((r.valves.get .rinse).switch .closed).level
    ∧ ((r.valves.get .rinse).setSwitch .closed ⟨true, true, 0⟩).bothAsserted = false
    ∧ (r.valves.get .rinse).state = towards .closed ∧ r.cycle.confirmed.get .rinse = false
    ∧ (ValveId.all.all fun other => other = .rinse || r.cycle.confirmed.get other) = true
    ∧ r.cycle.state = .recovering
    ∧ (i.valves.get .rinse).state = towards .closed ∧ i.cycle.confirmed.get .rinse = false
    ∧ (ValveId.all.all fun other => other = .rinse || i.cycle.confirmed.get other) = true
    ∧ i.cycle.state = .isolating
    ∧ (d.valves.get .rinse).state = towards .closed ∧ d.cycle.confirmed.get .rinse = false
    ∧ (ValveId.all.all fun other => other = .rinse || d.cycle.confirmed.get other) = true
    ∧ d.cycle.state.washStep = true
    ∧ more.cycle.state ≠ .starting ∧ more.cycle.state ≠ .lockedOut
    ∧ (ValveId.air ≠ .rinse ∧ more.cycle.confirmed.get .air = false) := by decide

/-- In LOCKED_OUT a STOPPED waste valve resolves to CLOSED, with the HOLD and without it (R64, R104). -/
theorem witness_LockedOutWasteValveCloses :
    let l := settledAll allClosedSet (station .lockedOut)
    let open1 := l.setValves (l.valves.set .rinse (Valve.fresh false false))
    let s := open1.setArb { open1.arb with claim := .hold 255 }
    let c1 := (s.valves.get .rinse).setSwitch .closed ⟨true, true, 0⟩
    s.supplyOk = true ∧ true ≠ ((s.valves.get .rinse).switch .closed).level ∧ c1.bothAsserted = false
    ∧ (s.valves.get .rinse).state = .stopped ∧ s.cycle.state = .lockedOut
    ∧ (isWaste .rinse = true ∧ s.arb.claim.isHold = true
      ∧ (s.setValves (s.valves.set .rinse { c1 with state := .closed })).valves.wasteClosed = true)
    ∧ open1.cycle.state = .lockedOut ∧ open1.arb.claim.isHold = false := by decide

theorem witness_ReversalPauseEndsInADriveOrASettlement :
    let c := { Valve.fresh false false with state := .closing, target := some .closed, pause := 1 }
    let s := (station .returning).setValves ((station .returning).valves.set .air c)
    let t := s.setValves (s.valves.set .air { c with closedSwitch := .changeTo true })
    s.supplyOk = true ∧ (s.valves.get .air).state = towards .closed ∧ (s.valves.get .air).pause = 1
    ∧ (s.valves.get .air).atLimit .closed = false ∧ (t.valves.get .air).state = towards .closed
    ∧ (t.valves.get .air).pause = 1 ∧ (t.valves.get .air).atLimit .closed = true := by decide

/-- The step timer of DRAIN_DOWN stands at 0 until the last channel has arrived, and counts from the next tick (R2). -/
theorem test_stepTimerCountsFromTheLastArrival :
    let d := arriving .drainDown (stepSet .drainDown) 0 false
    answers (step d) (fun t => t.cycle.stepTimer = 0) = true
    ∧ answers (exec (.limitSwitchChange .rinse .closed true) d) (fun t =>
        t.cycle.stepTimer = 0 && answers (step t) fun u => u.cycle.stepTimer = 1) = true := by decide

/-- The last to confirm does so at the end of its pause: in RETURNING, RECOVERING, ISOLATING and a wash step; and one
that is not the last. -/
theorem witness_LastPauseSettlesTheSet :
    let last := fun (s : State) =>
      s.supplyOk && decide ((s.valves.get .rinse).state = towards .closed) && (s.valves.get .rinse).pause = 1
        && (s.valves.get .rinse).atLimit .closed && !s.cycle.confirmed.get .rinse
        && ValveId.all.all fun other => other = .rinse || s.cycle.confirmed.get other
    let w := arriving .returning serviceSet 1 true
    let r := arriving .recovering serviceSet 1 true
    let i := arriving .isolating allClosedSet 1 true
    let d := arriving .drainDown (stepSet .drainDown) 1 true
    let more := d.setCycle { d.cycle with confirmed := { d.cycle.confirmed with air := false } }
    last w = true ∧ w.cycle.state = .returning ∧ w.cycle.outcome = some .complete
    ∧ last r = true ∧ r.cycle.state = .recovering ∧ last i = true ∧ i.cycle.state = .isolating
    ∧ last d = true ∧ d.cycle.state.washStep = true
    ∧ more.supplyOk = true ∧ (more.valves.get .rinse).state = towards .closed ∧ (more.valves.get .rinse).pause = 1
    ∧ (more.valves.get .rinse).atLimit .closed = true ∧ more.cycle.confirmed.get .rinse = false
    ∧ more.cycle.state ≠ .starting ∧ more.cycle.state ≠ .lockedOut
    ∧ (ValveId.air ≠ .rinse ∧ more.cycle.confirmed.get .air = false) := by decide

/-- A channel that opens and has travelled for the whole travel timeout. -/
def late : Valve := { Valve.fresh false false with state := .opening, target := some .opened, travel := 6000 }

theorem witness_ValveFaultMovesTheCycle :
    let r := (station .recovering).setValves ((station .recovering).valves.set .inlet late)
    let w := withPeers [] (washing .backwash 9)
    let f := settledAll serviceSet (station .inService)
    r.supplyOk = true ∧ noBothAsserted r = true ∧ (r.valves.get .inlet).driven = true
    ∧ r.cfg.travelTimeout * 100 ≤ (r.valves.get .inlet).travel ∧ r.cycle.state = .recovering
    ∧ noBothAsserted w = true ∧ (w.valves.get .washIn).state = settledAt .opened
    ∧ ((w.valves.get .washIn).switch .opened).level = true ∧ w.cycle.state.washStep = true
    ∧ standsAt serviceSet (w.setValves (w.valves.set .washIn ((w.valves.get .washIn).setSwitch .opened (.changeTo false)))) = false
    ∧ noBothAsserted f = true ∧ closedStand f = true ∧ (f.valves.get .inlet).state = settledAt .opened
    ∧ ((f.valves.get .inlet).switch .opened).level = true ∧ f.cycle.state.filtering = true
    ∧ standsAt serviceSet (f.setValves (f.valves.set .inlet ((f.valves.get .inlet).setSwitch .opened (.changeTo false)))) = false := by
  decide

/-- In the first ticks of DRAIN_DOWN a channel that travels out of its SERVICE switch times out. -/
theorem witness_ValveFaultEndsAWashAtOnce :
    let j := justEntered .drainDown
    let s := j.setValves (j.valves.set .inlet { j.valves.get .inlet with travel := 6000 })
    s.supplyOk = true ∧ noBothAsserted s = true ∧ (s.valves.get .inlet).driven = true
    ∧ s.cfg.travelTimeout * 100 ≤ (s.valves.get .inlet).travel ∧ s.cycle.state.washStep = true
    ∧ standsAt serviceSet (s.setValves (s.valves.set .inlet (s.valves.get .inlet))) = true := by decide

/-- A waste valve that leaves CLOSED in IN_SERVICE, in WAITING and in CONTEST (R101), and another channel's loss in
CONTEST (R97). -/
theorem witness_ValveFaultInAFilteringState :
    let released := fun (v : ValveId) (p : Position) (s : State) =>
      s.setValves (s.valves.set v ((s.valves.get v).setSwitch p (.changeTo false)))
    let f := settledAll serviceSet (station .inService)
    (f.valves.get .rinse).state = settledAt .closed ∧ ((f.valves.get .rinse).switch .closed).level = true
    ∧ isWaste .rinse = true ∧ f.arb.claim.isHold = false ∧ standsAt serviceSet (released .rinse .closed f) = false
    ∧ noBothAsserted contesting = true ∧ closedStand contesting = true ∧ contesting.cycle.state.filtering = true
    ∧ isWaste .inlet = false ∧ contesting.arb.claim.isIntent = true
    ∧ ((contesting.valves.get .inlet).switch .opened).level = true
    ∧ standsAt serviceSet (released .inlet .opened contesting) = false := by decide

/-- In LOCKED_OUT a CLOSED waste valve loses its position, with no HOLD and with one, beside a channel that stands in
FAULT with both switches asserted; and another channel does (R63, R101). -/
theorem witness_ValveFaultInLockedOut :
    let l := withStuck (settledAll allClosedSet (station .lockedOut))
    let held := l.setArb { l.arb with claim := .hold 255 }
    l.supplyOk = true ∧ l.cycle.state = .lockedOut ∧ noBothAsserted l = false
    ∧ (l.valves.get .washOut).state = settledAt .closed ∧ ((l.valves.get .washOut).switch .closed).level = true
    ∧ (isWaste .washOut = true ∧ (l.valves.get .washOut).state = .closed ∧ l.arb.claim.isHold = false)
    ∧ held.arb.claim.isHold = true ∧ isWaste .inlet = false
    ∧ (l.valves.get .inlet).state = settledAt .closed ∧ ((l.valves.get .inlet).switch .closed).level = true := by
  decide

/-- The drain is held by force at that event (R101). -/
theorem test_lostPositionInLockedOutHoldsTheDrain :
    answers (exec (.limitSwitchChange .washOut .closed false) (settledAll allClosedSet (station .lockedOut))) (fun t =>
      decide (t.cycle.state = .lockedOut ∧ t.arb.claim = .hold 255
        ∧ (t.valves.get .washOut).state = .fault .lost)) = true := by decide

/-- The second switch of a channel: already in FAULT, in LOCKED_OUT (WASH_OUT, with and without the HOLD), in a wash
step and RETURNING, in IN_SERVICE at a waste valve, in CONTEST at another. -/
theorem witness_SecondSwitchFaultsTheChannel :
    let meets := fun (v : ValveId) (p : Position) (s : State) =>
      s.supplyOk && decide (s.cycle.state ≠ .starting) && closedStand s && !((s.valves.get v).switch p).level
        && ((s.valves.get v).switch p.other).level
    let lost := fun (s : State) => s.setValves
      (s.valves.set .inlet { s.valves.get .inlet with state := .fault .lost, target := none })
    let f := settledAll serviceSet (station .inService)
    let l := settledAll allClosedSet (station .lockedOut)
    let held := l.setArb { l.arb with claim := .hold 255 }
    let r := (settledAll serviceSet (returning .complete))
    meets .inlet .closed (lost f) = true ∧ ((lost f).valves.get .inlet).state.isFault = true
    ∧ meets .washOut .opened l = true ∧ l.cycle.state = .lockedOut ∧ (l.valves.get .washOut).state.isFault = false
    ∧ (isWaste .washOut = true ∧ (l.valves.get .washOut).state = .closed ∧ l.arb.claim.isHold = false)
    ∧ meets .washOut .opened held = true ∧ held.arb.claim.isHold = true
    ∧ meets .washIn .closed (washing .backwash 9) = true ∧ (washing .backwash 9).cycle.state.washStep = true
    ∧ meets .inlet .closed r = true ∧ r.cycle.state = .returning
    ∧ meets .rinse .opened f = true ∧ f.cycle.state ≠ .lockedOut ∧ f.arb.claim.isHold = false
    ∧ meets .inlet .closed contesting = true ∧ contesting.cycle.state = .contest
    ∧ contesting.arb.claim.isIntent = true := by decide

/-- Both switches of WASH_IN in BACKWASH: the station locks out, with a LOCKED record and the drain held (R20, R27). -/
theorem test_secondSwitchLocksAWashOut :
    answers (exec (.limitSwitchChange .washIn .closed true) (washing .backwash 9)) (fun t =>
      decide (t.cycle.state = .lockedOut ∧ t.arb.claim = .hold 100 ∧ (t.valves.get .washIn).state = .fault .switches
        ∧ t.cycle.records = [{ due := .loading, outcome := .locked, backwashSeconds := 0, volume := 0 }]))
      = true := by decide

theorem witness_ManualWashRaisesOperator :
    (station .inService).supplyOk = true ∧ (station .inService).inputs.manualWash.level = false
    ∧ (station .inService).restricted = false ∧ (station .inService).cycle.state = .inService
    ∧ (restrictedStation .inService).restricted = true ∧ (station .isolated).cycle.state.filtering = false
    ∧ contesting.restricted = false ∧ contesting.cycle.state = .contest
    ∧ contesting.inputs.manualWash.level = false := by decide

theorem witness_KeyAndTankEndAContestUncounted :
    let s := contesting
    let keyed := s.setInputs { s.inputs with inhibitKey := .changeTo true }
    s.supplyOk = true ∧ s.inputs.inhibitKey.level = false ∧ s.req.inhibitFlag = false ∧ s.cycle.state = .contest
    ∧ s.arb.claim.isIntent = true ∧ (station .inService).inputs.inhibitKey.level = false
    ∧ (station .inService).cycle.state ≠ .contest ∧ keyed.inputs.inhibitKey.level = true
    ∧ s.inputs.tankLow.level = false ∧ (station .inService).cycle.state.washStep = false := by decide

theorem witness_FeedbackAndLevelChanges :
    (station .inService).supplyOk = true ∧ (station .inService).inputs.doseFb.level = false
    ∧ otherInputChange .flowOk true = true ∧ true ≠ ((station .inService).inputs.get .flowOk).level := by decide

theorem witness_ClaimArrivalsSetThePeersClaim :
    let s := station .inService
    s.supplyOk = true ∧ (3#5).toNat ≠ s.load.station ∧ 4 ≠ (3#5).toNat ∧ (120 : Byte) ≠ 0
    ∧ noBothAsserted s = true ∧ (2 : Byte).toNat ≤ 2
    ∧ ((findEntry 3 (ready .inService).peers.entries).bind PeerEntry.status).isSome = true := by decide

theorem witness_StatusAndReadingArrivals :
    let s := station .inService
    s.supplyOk = true ∧ (3#5).toNat ≠ s.load.station ∧ CycleState.ofCode (7 : Byte).toNat = some .backwash
    ∧ (1 : Byte).toNat = AnalyserState.channelFault.code ∧ (0#3).toNat = s.load.group
    ∧ s.sampleHolder = false ∧ s.dose.fresh = false := by decide

theorem witness_FramesThatAreNotPassedOn :
    (station .inService).supplyOk = true ∧ (5#5).toNat = (station .inService).load.station
    ∧ 4 ≤ kindOf (0x405 : Ident)
    ∧ (kindOf (0x123 : Ident) = 1 ∧ stationOf (0x123 : Ident) ≠ (station .inService).load.station
      ∧ groupOf (0x123 : Ident) ≠ (station .inService).load.group)
    ∧ (kindOf (0x303 : Ident) = 3 ∧ stationOf (0x303 : Ident) ≠ (station .inService).load.station) := by decide

theorem witness_ReceiveErrorsAreCounted :
    let s := station .inService
    s.supplyOk = true ∧ (3#5).toNat ≠ s.load.station
    ∧ ([1, 2, 3] : List Byte).length ≠ 4 ∧ byteAt [0, 1, 1, 0] 0 = 0 ∧ 3 < byteAt [4, 1, 1, 0] 0
    ∧ (byteAt [2, 1, 0, 0] 0 ≤ 2 ∧ byteAt [2, 1, 0, 0] 2 = 0)
    ∧ (byteAt [3, 0, 0, 3] 0 = 3 ∧ 2 < byteAt [3, 0, 0, 3] 3)
    ∧ 13 < byteAt [14, 0, 0, 0, 0, 0, 0, 0] 0 ∧ (0#3).toNat = s.load.group ∧ 1 < byteAt [0, 0, 0, 0, 2] 4
    ∧ s.link.attempt = .idle
    ∧ ((sending .status s).setLink { (sending .status s).link with attempt := .lost }).link.inTx.isSome = true := by
  decide

theorem witness_LapsesRemoveWhatIsSilent :
    let silent := { peer 3 .none with status := some { code := .inService, age := 400 } }
    let intent := { peer 3 (.intent 9 9) with claimAge := 300 }
    let hold := { peer 3 (.hold 9 9) with claimAge := 12000 }
    (station .inService).supplyOk = true
    ∧ findEntry (3#5).toNat (withPeers [silent] (station .inService)).peers.entries = some silent
    ∧ silent.station = (3#5).toNat ∧ silent.statusDue = true
    ∧ findEntry (3#5).toNat (withPeers [intent] (station .inService)).peers.entries = some intent
    ∧ intent.claim.isIntent = true ∧ 300 ≤ intent.claimAge
    ∧ findEntry (3#5).toNat (withPeers [hold] (station .inService)).peers.entries = some hold
    ∧ hold.claim.isHold = true ∧ (station .inService).cfg.claimLapse * 100 ≤ hold.claimAge := by decide

theorem witness_UrgencyAndPrecedence :
    (station .inService).arb.claim = .none ∧ contesting.arb.claim = .intent 100 .windowed
    ∧ (washing .settle 0).arb.claim = .hold 100
    ∧ (peer 3 .none).claim = .none ∧ (peer 3 (.hold 9 8)).claim = .hold 9 8
    ∧ (peer 4 (.intent 9 8)).claim = .intent 9 8 ∧ (peer 3 (.hold 9 8)).station ≠ (peer 4 (.intent 9 8)).station
    ∧ contesting.cycle.due = .loading ∧ [DueReason.runtime, .loading, .turbidity, .operator].map DueReason.base
      = [0, 64, 128, 192] := by decide

/-- The tests at their edges: the flow sum at W + D and one above it, the group minimum met and not, each condition for
a new intent. -/
theorem test_theTestsAtTheirEdges :
    let s := ready .waiting
    let room := s.cfg.drainCapacity - s.cfg.washFlow
    let with_ := fun (f : Nat) => withPeers [peer 3 .none, peer 6 (.hold 9 f)] s
    (admission (with_ room) && overlapPasses (with_ room)) = true ∧ admission (with_ (room + 1)) = false
    ∧ overlapPasses (with_ (room + 1)) = false ∧ admission (withPeers [] s) = false
    ∧ (peer 3 (.hold 9 8)).countsAsFiltering = false ∧ (peer 3 (.intent 9 8)).countsAsFiltering = true
    ∧ intentConditions s = true ∧ intentConditions (s.setLink { s.link with successAge := 400 }) = false
    ∧ intentConditions (s.setArb { s.arb with backoff := 1 }) = false
    ∧ intentConditions (s.setReq { s.req with inhibitFlag := true }) = false
    ∧ intentConditions (s.setPeers { s.peers with duplicate := true }) = false := by decide

theorem witness_WindowExpiryWinsTheContest :
    let s := withPeers [peer 3 .none] contesting
    s.supplyOk = true ∧ s.cycle.state = .contest ∧ s.arb.claim = .intent 100 .windowed
    ∧ s.cfg.contestWindow ≤ s.arb.windowTimer ∧ admission s = true ∧ noBothAsserted s = true := by decide

theorem witness_FailedTestLosesTheContest :
    let s := withPeers [peer 3 .none] contesting
    let after := fun (u : Nat) => s.setPeers
      { s.peers with
        entries := putEntry ((entryAt 4 0 s.peers.entries).takeIntent u 200) s.peers.entries }
    s.supplyOk = true ∧ s.cycle.state = .contest ∧ s.arb.claim.isIntent = true
    ∧ (4#5).toNat ≠ s.load.station ∧ (200 : Byte) ≠ 0
    ∧ (findEntry 4 s.peers.entries).map PeerEntry.visible
        ≠ some ((entryAt 4 0 s.peers.entries).takeIntent 101 200).visible
    ∧ admission (after 101) = false ∧ admission (after 99) = true := by decide

/-- A RELEASE of the HOLD that kept the drain lets a station in WAITING into CONTEST; a STATUS of a peer that leaves
the filtering states does not. -/
theorem witness_ChangeReportInWaiting :
    let s := withPeers [peer 3 .none, peer 4 (.hold 9 255)] (ready .waiting)
    let freed := s.setPeers { s.peers with entries := putEntry (peer 4 .none) s.peers.entries }
    let gone := s.setPeers
      { s.peers with entries := putEntry ((peer 4 (.hold 9 255)).takeStatus .backwash) s.peers.entries }
    s.supplyOk = true ∧ s.cycle.state = .waiting ∧ s.arb.claim = .none
    ∧ (findEntry 4 s.peers.entries).map PeerEntry.visible ≠ some (peer 4 .none).visible
    ∧ intentConditions freed = true ∧ admission freed = true
    ∧ (findEntry 4 s.peers.entries).map PeerEntry.visible
        ≠ some ((peer 4 (.hold 9 255)).takeStatus .backwash).visible
    ∧ ¬ (intentConditions gone = true ∧ admission gone = true)
    ∧ CycleState.ofCode (7 : Byte).toNat = some .backwash
    ∧ ([0, 0, 0, 0, 0, 0, 0] : List Byte).length = 7 := by decide

/-- The other events that are reported: an entry into HOLD in CONTEST, one in a wash step apart; a READING that changes
the group; the three lapses, each of an entry that the tests read; and a refresh, which changes nothing they read. -/
theorem witness_OtherChangeReports :
    let waits := fun (e : PeerEntry) => withPeers [peer 3 .none, e] (ready .waiting)
    let with_ := fun (e : PeerEntry) (s : State) => s.setPeers { s.peers with entries := putEntry e s.peers.entries }
    let c := withPeers [peer 3 .none] contesting
    let other := { peer 4 .none with group := 1 }
    let silent := { peer 4 .none with status := some { code := .inService, age := 400 } }
    let intent := { peer 4 (.intent 200 255) with claimAge := 300 }
    let hold := { peer 4 (.hold 9 255) with claimAge := 12000 }
    c.cycle.state = .contest ∧ admission (with_ ((entryAt 4 0 c.peers.entries).takeHold 9 255) c) = false
    ∧ admission (with_ ((entryAt 4 0 c.peers.entries).takeHold 9 1) c) = true
    ∧ (0 : Byte).toNat = AnalyserState.good.code ∧ (0#3).toNat = (waits other).load.group
    ∧ findEntry (4#5).toNat (waits other).peers.entries = some other
    ∧ other.visible ≠ { other with group := 0 }.visible
    ∧ findEntry (4#5).toNat (waits silent).peers.entries = some silent ∧ silent.statusDue = true
    ∧ findEntry (4#5).toNat (waits intent).peers.entries = some intent ∧ intent.claim.isIntent = true
    ∧ 300 ≤ intent.claimAge
    ∧ findEntry (4#5).toNat (waits hold).peers.entries = some hold ∧ hold.claim.isHold = true
    ∧ (waits hold).cfg.claimLapse * 100 ≤ hold.claimAge
    ∧ admission (waits hold) = false ∧ admission (with_ (peer 4 .none) (waits hold)) = true
    ∧ (peer 4 (.hold 9 255)).visible = ((peer 4 (.hold 9 255)).takeHold 9 255).visible
    ∧ (ready .isolated).cycle.state ≠ .contest ∧ (ready .isolated).cycle.state ≠ .waiting
    ∧ (ready .isolated).cycle.state.washStep = false := by decide

/-- The lapse of the HOLD that kept the drain lets a station in WAITING into CONTEST (R78, R92); a HOLD that takes it
ends a contest as a counted loss (R75, R94). -/
theorem test_lapseAndHoldReachTheContest :
    let hold := { peer 4 (.hold 9 255) with claimAge := 12000 }
    let w := (withPeers [peer 3 .none, hold] (ready .waiting))
    answers (exec (.holdLapse 4) (w.setCycle { w.cycle with due := .loading })) (fun t =>
      decide (t.cycle.state = .contest ∧ t.arb.claim = .intent 64 .pending ∧ t.peers.claimLapses = 1)) = true
    ∧ answers (exec (.claimHoldArrival 0 4 [2, 9, 255, 0]) (withPeers [peer 3 .none] contesting)) (fun t =>
      decide (t.cycle.state = .waiting ∧ t.arb.claim = .none ∧ t.arb.contestsLost = 1)) = true := by decide

theorem witness_OverlapIsCountedAndYieldedTo :
    let s := withPeers [peer 3 .none] (washing .drainDown 9)
    let later := withPeers [peer 3 .none] (washing .backwash 9)
    let after := fun (f : Nat) => s.setPeers
      { s.peers with entries := putEntry ((entryAt 4 0 s.peers.entries).takeHold 101 f) s.peers.entries }
    s.supplyOk = true ∧ s.cycle.state.washStep = true ∧ s.arb.claim = .hold 100
    ∧ (4#5).toNat ≠ s.load.station ∧ (200 : Byte) ≠ 0 ∧ (entryAt 4 0 s.peers.entries).claim.isHold = false
    ∧ overlapPasses (after 100) = true ∧ overlapPasses (after 200) = false ∧ 100 < (101 : Byte).toNat
    ∧ noBothAsserted s = true ∧ standsAt serviceSet s = false
    ∧ ¬ (later.cycle.state = .drainDown ∨ later.cycle.state = .airScour)
    ∧ standsAt serviceSet (withPeers [peer 3 .none] (justEntered .drainDown)) = true
    ∧ (justEntered .drainDown).cycle.state = .drainDown ∧ (justEntered .drainDown).arb.claim = .hold 100 := by decide

theorem witness_BackoffEndsAndHoldIsRefreshed :
    let s := (station .waiting).setArb { (station .waiting).arb with backoff := 1 }
    let h := (station .recovering).setArb { (station .recovering).arb with claim := .hold 255, refreshTimer := 200 }
    s.supplyOk = true ∧ s.cycle.state = .waiting ∧ s.arb.backoff = 1 ∧ h.arb.claim = .hold 255
    ∧ 200 ≤ h.arb.refreshTimer := by decide

theorem witness_LinkEventsOfNoOwner :
    let s := sending .status (station .inService)
    let off := (station .inService).setLink { State.reset.link with mode := .off, offTimer := 100, successAge := 399 }
    s.supplyOk = true ∧ s.link.inTx = some { kind := .status, ident := 0, data := [] } ∧ s.link.attempt = .idle
    ∧ off.link.mode = .off ∧ 100 ≤ off.link.offTimer ∧ off.link.successAge = 399 := by decide

theorem witness_TransmitFailureRaisesTheTallyOrGoesOff :
    let near := fun (s : State) => s.setLink { s.link with tally := 248, mode := .cautious }
    let s := near (sending .status (station .inService))
    let c := near (sending .status contesting)
    let w := near (sending .status (washing .backwash 9))
    s.supplyOk = true ∧ s.link.inTx = some { kind := .status, ident := 0, data := [] }
    ∧ (sending .status contesting).link.tally + 8 ≤ 255
    ∧ 255 < s.link.tally + 8 ∧ s.req.pendingRestart = false ∧ s.cycle.state.washStep = false
    ∧ s.cycle.state ≠ .contest ∧ c.cycle.state = .contest ∧ c.arb.claim.isIntent = true
    ∧ w.cycle.state.washStep = true ∧ noBothAsserted w = true ∧ standsAt serviceSet w = false
    ∧ (justEntered .drainDown).cycle.state.washStep = true
    ∧ standsAt serviceSet (near (sending .status (justEntered .drainDown))) = true := by decide

theorem witness_CompletionLowersTheTallyAndStartsTheWindow :
    let s := sending (.claim (some 0)) (contesting.setArb { contesting.arb with claim := .intent 100 .pending })
    s.supplyOk = true ∧ s.link.inTx = some { kind := .claim (some 0), ident := 0, data := [] }
    ∧ TxKind.claim (some 0) ≠ .answer true ∧ s.arb.claim = .intent (ownUrgency s) .pending := by decide

theorem witness_PumpEvents :
    let s := station .inService
    let d := s.setDose { s.dose with mode := .base, interval := some 1125, elapsed := 1125, pulse := 1, windows := [49] }
    let stale := s.setDose { s.dose with readingAge := 1999 }
    s.supplyOk = true ∧ d.dose.mode = .base ∧ d.dose.interval = some 1125 ∧ 1125 ≤ d.dose.elapsed
    ∧ d.dose.pulse = 1 ∧ d.dose.missDue = true ∧ d.dose.missCount ≤ 3
    ∧ { d.dose with missCount := 3 }.missCount ≤ 3 ∧ stale.sampleHolder = false
    ∧ stale.dose.readingAge = 1999 := by decide

theorem witness_RequestsNotCarriedOut :
    let s := station .inService
    let full := s.setLink { s.link with answers := List.replicate 4 { kind := .answer false, ident := 0, data := [] } }
    s.supplyOk = true ∧ requestRow (.washNow 1 5 0 0) = some ⟨1, 5, 1, 0⟩ ∧ (6 : Nat) ≠ s.load.station
    ∧ (station .starting).cycle.state = .starting ∧ 4 ≤ full.link.answers.length ∧ s.cycle.state ≠ .starting
    ∧ reachesJudgement ⟨1, 5, 13, 0⟩ s = true ∧ requestRow (.unknownRequest 1 5 0 13 0) = some ⟨1, 5, 13, 0⟩
    ∧ (restrictedStation .inService).restricted = true
    ∧ reachesJudgement ⟨1, 5, 1, 0⟩ (restrictedStation .inService) = true
    ∧ reachesJudgement ⟨1, 5, 1, 0⟩ (station .isolated) = true
    ∧ (station .isolated).cycle.state.filtering = false ∧ (station .isolated).restricted = false
    ∧ requestRow (.readCounters 1 5 0 3) = some ⟨1, 5, 8, 3⟩
    ∧ requestRow (.readWashRecord 1 5 0 4) = some ⟨1, 5, 10, 4⟩ := by decide

theorem witness_RefusedStates :
    reachesJudgement ⟨1, 5, 2, 0⟩ (station .inService) = true ∧ (station .inService).cycle.state ≠ .waiting
    ∧ (station .isolated).cycle.state ≠ .inService ∧ (station .inService).cycle.state ≠ .isolated
    ∧ (station .inService).dose.mode ≠ .fault := by decide

theorem witness_ReadsAnswerTheirData :
    reachesJudgement ⟨1, 5, 8, 2⟩ (station .inService) = true ∧ (2 : Byte).toNat ≤ 2 ∧ (3 : Byte).toNat ≤ 3
    ∧ (0 : Byte).toNat = 0 ∧ (1 : Byte).toNat = 1 := by decide

theorem witness_HandlerRequestsAreCarriedOut :
    let f := (station .inService).setDose { (station .inService).dose with mode := .fault, faultLatch := true }
    reachesJudgement ⟨1, 5, 0, 0⟩ (station .inService) = true ∧ (station .inService).cycle.state ≠ .contest
    ∧ reachesJudgement ⟨1, 5, 0, 0⟩ contesting = true ∧ contesting.inhibited = false
    ∧ contesting.cycle.state = .contest ∧ contesting.arb.claim.isIntent = true
    ∧ reachesJudgement ⟨1, 5, 0, 0⟩ f = true ∧ f.dose.mode = .fault := by decide

theorem witness_CycleRequestsAreCarriedOut :
    let s := settledAll serviceSet (station .inService)
    let i := settledAll allClosedSet (station .isolated)
    let w := washing .backwash 9
    reachesJudgement ⟨1, 5, 0, 0⟩ s = true ∧ s.restricted = false ∧ s.cycle.state = .inService
    ∧ reachesJudgement ⟨1, 5, 0, 0⟩ (station .waiting) = true ∧ (station .waiting).cycle.state = .waiting
    ∧ reachesJudgement ⟨1, 5, 0, 0⟩ contesting = true ∧ contesting.cycle.state = .contest
    ∧ contesting.arb.claim.isIntent = true
    ∧ reachesJudgement ⟨1, 5, 0, 0⟩ w = true ∧ w.cycle.state.washStep = true ∧ noBothAsserted w = true
    ∧ standsAt serviceSet w = false
    ∧ noBothAsserted s = true ∧ s.valves.wasteClosed = true ∧ s.valves.washOut.atLimit .closed = true
    ∧ s.valves.rinse.atLimit .closed = true
    ∧ reachesJudgement ⟨1, 5, 0, 0⟩ i = true ∧ i.cycle.state = .isolated ∧ noBothAsserted i = true
    ∧ standsAt serviceSet i = false ∧ closedStand i = true
    ∧ reachesJudgement ⟨1, 5, 0, 0⟩ (justEntered .drainDown) = true
    ∧ (justEntered .drainDown).cycle.state.washStep = true ∧ standsAt serviceSet (justEntered .drainDown) = true
    ∧ noBothAsserted (settledAll serviceSet (station .isolated)) = true
    ∧ closedStand (settledAll serviceSet (station .isolated)) = true
    ∧ standsAt serviceSet (settledAll serviceSet (station .isolated)) = true := by decide

/-- RETURN's STATUS and ANSWER (R26, R144): the STATUS is taken first (R134), the ANSWER TAKEN of code 6 waits. -/
theorem test_returnIsAnswered :
    let i := settledAll allClosedSet (station .isolated)
    answers (exec (.returnToService 1 5 0 0) i) (fun t =>
      decide (t.cycle.state = .recovering ∧ t.link.inTx = some (statusFrame t)
        ∧ t.link.answers = [answerFrame 1 6 .taken zeroData false i])) = true := by decide

theorem witness_RestartIsAnsweredOrCarriedOut :
    let off := (station .inService).setLink { State.reset.link with mode := .off }
    reachesJudgement ⟨1, 5, 11, 0⟩ (station .inService) = true ∧ (station .inService).link.mode ≠ .off
    ∧ reachesJudgement ⟨1, 5, 11, 0⟩ off = true ∧ off.link.mode = .off ∧ unknownCode 0 = true
    ∧ unknownCode 13 = true ∧ unknownCode 31 = true := by decide

/-- One state has every law, and a step leaves it for another. -/
theorem witness_EveryStepKeepsTheLaws :
    let s := (washing .backwash 9).setPending [.tankLowAssert]
    peerLaw s = true ∧ linkLaw s = true ∧ drainLaw s = true ∧ cycleLaw s = true ∧ valveLaw s = true
    ∧ dosingLaw s = true ∧ scanLaw s = true ∧ counterLaw s = true
    ∧ answers (step s) (fun t => t.cycle.state = .returning) = true := by decide

end Sys2Proof.Tests
end

section
/-! SUPPORT. What the operations that move the cycle leave of the cycle, the valves and the link: one equation an
operation, so that no proof about a command unfolds them. -/

namespace Sys2Proof.Machine

/-! ### The arbiter's operations leave the cycle and the valves -/

@[simp] theorem offer_cycle (f : TxFrame) (s : State) : (offer f s).cycle = s.cycle := rfl

@[simp] theorem setBackoff_cycle (s : State) : (setBackoff s).cycle = s.cycle := rfl

@[simp] theorem dropClaim_cycle (s : State) : (dropClaim s).cycle = s.cycle := rfl

@[simp] theorem withdraw_cycle (s : State) : (withdraw s).cycle = s.cycle := rfl

@[simp] theorem takeHold_cycle (u : Nat) (s : State) : (takeHold u s).cycle = s.cycle := rfl

@[simp] theorem releaseFinished_cycle (s : State) : (releaseFinished s).cycle = s.cycle := rfl

@[simp] theorem releaseAtLockout_cycle (s : State) : (releaseAtLockout s).cycle = s.cycle := by
  unfold releaseAtLockout; split <;> rfl

@[simp] theorem arbiterSurvey_cycle (s : State) : (arbiterSurvey s).cycle = s.cycle := by
  unfold arbiterSurvey; split <;> rfl

/-- A waste valve's report is what the arbiter does with one that leaves CLOSED, what it does with one that becomes
CLOSED, or nothing (R101, R104). -/
theorem wasteReport_cases (v : ValveId) (a b : ValveState) (s : State) :
    wasteReport v a b s = wasteLeftClosed s ∨ wasteReport v a b s = wasteBecameClosed s ∨ wasteReport v a b s = s := by
  unfold wasteReport
  split
  · split
    · exact .inl rfl
    · split
      · exact .inr (.inl rfl)
      · exact .inr (.inr rfl)
  · exact .inr (.inr rfl)

theorem wasteLeftClosed_cases (s : State) : wasteLeftClosed s = s ∨ wasteLeftClosed s = takeHold 255 s := by
  unfold wasteLeftClosed
  split
  · exact .inl rfl
  · split
    · exact .inl rfl
    · exact .inr rfl

theorem wasteBecameClosed_cases (s : State) :
    wasteBecameClosed s = releaseFinished s ∨ wasteBecameClosed s = s := by
  unfold wasteBecameClosed
  split
  · exact .inl rfl
  · exact .inr rfl

@[simp] theorem wasteReport_cycle (v : ValveId) (a b : ValveState) (s : State) :
    (wasteReport v a b s).cycle = s.cycle := by
  rcases wasteReport_cases v a b s with h | h | h <;> rw [h]
  · rcases wasteLeftClosed_cases s with e | e <;> rw [e]; rfl
  · rcases wasteBecameClosed_cases s with e | e <;> rw [e]; rfl

@[simp] theorem wasteReport_valves (v : ValveId) (a b : ValveState) (s : State) :
    (wasteReport v a b s).valves = s.valves := by
  rcases wasteReport_cases v a b s with h | h | h <;> rw [h]
  · rcases wasteLeftClosed_cases s with e | e <;> rw [e]; rfl
  · rcases wasteBecameClosed_cases s with e | e <;> rw [e]; rfl

/-- The states in which the arbiter holds the claim of a wash: the wash steps and RETURNING (R86). -/
def CycleState.washing (c : CycleState) : Bool := c.washStep || c = .returning

/-- The claim of a wash already covers a waste valve that leaves CLOSED in it (R101). -/
theorem wasteLeftClosed_of_washing {s : State} (h : s.cycle.state.washing = true) : wasteLeftClosed s = s := by
  have hw : (s.cycle.state = .starting || s.cycle.state.washStep || s.cycle.state = .returning) = true := by
    rw [Bool.or_assoc, Bool.or_eq_true]; exact .inr h
  exact if_pos hw

theorem wasteBecameClosed_of_not_lockedOut {s : State} (h : s.cycle.state ≠ .lockedOut) : wasteBecameClosed s = s := by
  unfold wasteBecameClosed
  rw [decide_eq_false h, Bool.false_and, Bool.false_and, if_neg Bool.false_ne_true]

/-- A waste valve's report changes nothing outside LOCKED_OUT where it does not leave CLOSED, and in a wash none
does (R101, R104). -/
theorem wasteReport_eq_self {v : ValveId} {a b : ValveState} {s : State} (hl : s.cycle.state ≠ .lockedOut)
    (h : s.cycle.state.washing = true ∨ (isWaste v = true → a = .closed → b = .closed)) :
    wasteReport v a b s = s := by
  unfold wasteReport
  split
  next hv =>
    split
    next hab =>
      obtain ⟨ha, hb⟩ : a = .closed ∧ b ≠ .closed := by
        simpa only [Bool.and_eq_true, decide_eq_true_eq, bne_iff_ne] using hab
      exact wasteLeftClosed_of_washing (h.resolve_right fun hk => hb (hk hv ha))
    · split
      · exact wasteBecameClosed_of_not_lockedOut hl
      · rfl
  · rfl

/-! ### Changes of cycle state -/

/-- A change of cycle state: the cycle, dosing on an exit from the filtering states (R116), the back-off on an exit
from WAITING (R98). -/
theorem enterState_eq (new : CycleState) (s : State) :
    enterState new s =
      ((s.setCycle (cycleIn new s.cycle)).setDose
        (if s.cycle.state.filtering && !new.filtering then s.dose.holdOnExit else s.dose)).setArb
        (if s.cycle.state = .waiting && new != .waiting then { s.arb with backoff := 0 } else s.arb) := by
  unfold enterState
  dsimp only
  by_cases hf : (s.cycle.state.filtering && !new.filtering) = true
  · rw [if_pos hf, if_pos hf]; split <;> rfl
  · rw [if_neg hf, if_neg hf]; split <;> rfl

@[simp] theorem enterState_cycle (new : CycleState) (s : State) :
    (enterState new s).cycle = cycleIn new s.cycle := by rw [enterState_eq]; rfl

@[simp] theorem enterState_valves (new : CycleState) (s : State) : (enterState new s).valves = s.valves := by
  rw [enterState_eq]; rfl

@[simp] theorem enterState_link (new : CycleState) (s : State) : (enterState new s).link = s.link := by
  rw [enterState_eq]; rfl

/-- Where no filtering state is left for another, and WAITING is not left, the cycle alone changes. -/
theorem enterState_quiet {s : State} {new : CycleState} (hf : s.cycle.state.filtering = true → new.filtering = true)
    (hw : s.cycle.state = .waiting → new = .waiting) : enterState new s = s.setCycle (cycleIn new s.cycle) := by
  rw [enterState_eq, if_neg (by simpa using hf), if_neg (by simpa using hw)]; rfl

theorem enterState_of_not_filtering {s : State} (h : s.cycle.state.filtering = false) (new : CycleState) :
    enterState new s = s.setCycle (cycleIn new s.cycle) :=
  enterState_quiet (fun hf => by rw [h] at hf; cases hf) (fun hw => by rw [hw] at h; cases h)

@[simp] theorem cycleIn_state (new : CycleState) (c : Cycle) : (cycleIn new c).state = new := rfl

@[simp] theorem cycleIn_due (new : CycleState) (c : Cycle) : (cycleIn new c).due = c.due := rfl

@[simp] theorem cycleIn_waitMinutes (new : CycleState) (c : Cycle) :
    (cycleIn new c).waitMinutes = c.waitMinutes := rfl

@[simp] theorem cycleIn_waitSeconds (new : CycleState) (c : Cycle) :
    (cycleIn new c).waitSeconds = c.waitSeconds := rfl

@[simp] theorem cycleIn_runSeconds (new : CycleState) (c : Cycle) : (cycleIn new c).runSeconds = c.runSeconds := rfl

@[simp] theorem cycleIn_records (new : CycleState) (c : Cycle) : (cycleIn new c).records = c.records := rfl

@[simp] theorem cycleIn_outcome (new : CycleState) (c : Cycle) : (cycleIn new c).outcome = c.outcome := rfl

@[simp] theorem cycleIn_cycleIn (new old : CycleState) (c : Cycle) :
    cycleIn new (cycleIn old c) = cycleIn new c := rfl

/-! ### The commanding of a set -/

@[simp] theorem commandSet_cycle (set : ValveSet) (s : State) :
    (commandSet set s).cycle = { s.cycle with confirmed := s.valves.confirmations set } := by
  unfold commandSet; simp

/-- A channel at a limit has one switch released. -/
theorem Valve.bothAsserted_of_atLimit {c : Valve} {p : Position} (h : c.atLimit p = true) :
    c.bothAsserted = false := by
  cases p <;> simp_all [Valve.atLimit, Valve.bothAsserted, Valve.switch, Position.other]

/-- Where the waste valves' reports change nothing, the commanding of a set leaves the channels and their
confirmations alone (R2, R101). -/
theorem commandSet_eq {s : State} (hl : s.cycle.state ≠ .lockedOut) {set : ValveSet}
    (h : s.cycle.state.washing = true ∨ ∀ v, isWaste v = true → (s.valves.get v).state = .closed →
      ((s.valves.command set).get v).state = .closed) :
    commandSet set s = commandedTo set s := by
  have hv : ∀ v, s.cycle.state.washing = true ∨ (isWaste v = true → (s.valves.get v).state = .closed →
      ((s.valves.command set).get v).state = .closed) := fun v => h.imp_right fun h => h v
  have hout := wasteReport_eq_self (v := .washOut) (s := commandedTo set s) hl (hv .washOut)
  have hrinse := wasteReport_eq_self (v := .rinse) (s := commandedTo set s) hl (hv .rinse)
  exact (congrArg (wasteReport .rinse _ _) hout).trans hrinse

theorem commandSet_of_washing {s : State} (h : s.cycle.state.washing = true) (set : ValveSet) :
    commandSet set s = commandedTo set s :=
  commandSet_eq (by rintro hs; simp [hs, CycleState.washing, CycleState.washStep] at h) (.inl h)

/-- The same outside LOCKED_OUT, where a waste valve that is CLOSED stands there and is commanded there. -/
theorem commandSet_of_closed {s : State} (hl : s.cycle.state ≠ .lockedOut) {set : ValveSet}
    (h : ∀ v, isWaste v = true → (s.valves.get v).state = .closed →
      set v = .closed ∧ (s.valves.get v).atLimit .closed = true) :
    commandSet set s = commandedTo set s := by
  refine commandSet_eq hl (.inr fun v hv hs => ?_)
  obtain ⟨hset, hat⟩ := h v hv hs
  rw [Valves.get_command, hset]
  rcases (s.valves.get v).command_cases .closed with ⟨-, -, hx, -⟩ | ⟨hx, -⟩ | ⟨hx, -⟩
  · exact hx
  · rw [Valve.bothAsserted_of_atLimit hat] at hx; cases hx
  · rw [hat] at hx; cases hx

/-- Where no channel has both switches asserted none faults at a command (R57, case 2). -/
theorem commandFaults_of_noBothAsserted {s : State} (h : noBothAsserted s = true) (set : ValveSet) :
    s.valves.commandFaults set = false := by
  refine Valves.commandFaults_eq_false (fun v => ?_) set
  simpa using valves_all_iff.1 h v

theorem noBothAsserted_of_standsAt {set : ValveSet} {s : State} (h : standsAt set s = true) :
    noBothAsserted s = true :=
  valves_all_iff.2 fun v => by
    simpa using Valve.bothAsserted_of_atLimit (valves_all_iff.1 h v)

/-- A set is settled at its command exactly where every channel stands at its limit in it (R2). -/
theorem confirmations_all (set : ValveSet) (s : State) :
    (s.valves.confirmations set).all = standsAt set s := by
  rw [Bool.eq_iff_iff, ValveFlags.all_iff, standsAt, valves_all_iff]
  simp only [Valves.confirmations_get]

/-! ### Entries into a wash step and into a state with a set -/

theorem closeBackwash_eq (o : WashOutcome) (s : State) :
    (closeBackwash s).setCycle { (closeBackwash s).cycle with outcome := some o } = cutShortAs o s := by
  unfold closeBackwash cutShortAs; split <;> rfl

theorem cutShort_eq (o : WashOutcome) (s : State) : cutShort o s = enterReturning (cutShortAs o s) :=
  congrArg enterReturning (closeBackwash_eq o s)

theorem endBackwash_eq (o : WashOutcome) (s : State) : endBackwash o s = enterStep .settle (cutShortAs o s) :=
  congrArg (enterStep .settle) (closeBackwash_eq o s)

end Sys2Proof.Machine
end

section
/-! SUPPORT. The cycle law taken apart: the ranges of the cycle record, and what its state asks of it; each operation of
the cycle controller keeps them. Inside an event the ranges alone hold at every moment: a due reason or an outcome may
be cleared before the state that asks for it is left. -/

namespace Sys2Proof.Machine

/-- A wash record has a due reason and a backwash time in its range (R29). -/
def WashRecord.Lawful (r : WashRecord) : Prop := r.due ≠ .none ∧ r.backwashSeconds ≤ 1200

/-- The ranges of the cycle record (R1, R29, R30). -/
structure Cycle.InRange (c : Cycle) : Prop where
  waitMinutes     : c.waitMinutes ≤ 63
  waitSeconds     : c.waitSeconds ≤ 59
  stepTimer       : c.stepTimer ≤ 120000
  clearHold       : c.clearHold ≤ 2000
  backwashSeconds : c.backwashSeconds ≤ 1200
  runSeconds      : c.runSeconds ≤ 4294967295
  recordCount     : c.records.length ≤ 4
  records         : ∀ r ∈ c.records, r.Lawful

/-- The cycle record as its state asks for it (R1, R3, R15). -/
structure Cycle.Lawful (c : Cycle) : Prop extends Cycle.InRange c where
  due           : wantsWash c.state = true → c.due ≠ .none
  stepTimerIdle : c.state.washStep = false → c.stepTimer = 0
  clearHoldIdle : c.state ≠ .backwash → c.clearHold = 0
  outcome       : hasOutcome c.state = true → c.outcome.isSome = true

/-- The cycle law as a proposition: the record is lawful, and the bounds of the backwash time stand in their order
(R165). -/
def CycleOk (s : State) : Prop := s.cycle.Lawful ∧ s.load.config.backwashMin ≤ s.load.config.backwashMax

theorem cycleLaw_iff (s : State) : cycleLaw s = true ↔ CycleOk s := by
  have hor : ∀ a b : Bool, ((!a || b) = true) ↔ (a = true → b = true) := by decide
  simp only [cycleLaw, Bool.and_eq_true, hor, decide_eq_true_eq, bne_iff_ne, List.all_eq_true]
  constructor
  · rintro ⟨⟨⟨⟨⟨⟨⟨⟨⟨⟨⟨⟨hm, hs⟩, ht⟩, hc⟩, hb⟩, hr⟩, hn⟩, hrec⟩, hdue⟩, hti⟩, hci⟩, hout⟩, hcfg⟩
    exact ⟨{ waitMinutes := hm, waitSeconds := hs, stepTimer := ht, clearHold := hc, backwashSeconds := hb,
             runSeconds := hr, recordCount := hn, records := hrec, due := hdue,
             stepTimerIdle := fun h => by simpa [h] using hti,
             clearHoldIdle := fun h => by simpa [h] using hci, outcome := hout }, hcfg⟩
  · rintro ⟨h, hcfg⟩
    refine ⟨⟨⟨⟨⟨⟨⟨⟨⟨⟨⟨⟨h.waitMinutes, h.waitSeconds⟩, h.stepTimer⟩, h.clearHold⟩, h.backwashSeconds⟩, h.runSeconds⟩,
      h.recordCount⟩, h.records⟩, h.due⟩, ?_⟩, ?_⟩, h.outcome⟩, hcfg⟩
    · cases hw : s.cycle.state.washStep with
      | true => rfl
      | false => simp [h.stepTimerIdle hw]
    · by_cases hb : s.cycle.state = .backwash
      · simp [hb]
      · simp [h.clearHoldIdle hb]

/-! ### The parts of a wash -/

/-- A record in its ranges is lawful in a state that has been entered with what the state asks for. -/
theorem Cycle.InRange.enter {c : Cycle} (h : c.InRange) {new : CycleState}
    (hd : wantsWash new = true → c.due ≠ .none) (ho : hasOutcome new = true → c.outcome.isSome = true) :
    (cycleIn new c).Lawful :=
  { h with
    stepTimer := Nat.zero_le _, clearHold := Nat.zero_le _, due := hd, stepTimerIdle := fun _ => rfl,
    clearHoldIdle := fun _ => rfl, outcome := ho }

theorem Cycle.InRange.clearDue {s : State} (h : s.cycle.InRange) : (clearDue s).cycle.InRange :=
  { h with waitMinutes := Nat.zero_le _, waitSeconds := Nat.zero_le _ }

theorem Cycle.InRange.clearOutcome {s : State} (h : s.cycle.InRange) : (clearOutcome s).cycle.InRange :=
  { h with backwashSeconds := Nat.zero_le _ }

theorem Cycle.InRange.clearRunSeconds {s : State} (h : s.cycle.InRange) : (clearRunSeconds s).cycle.InRange := by
  unfold Machine.clearRunSeconds; split
  · exact { h with runSeconds := Nat.zero_le _ }
  · exact h

theorem clearRunSeconds_due (s : State) : (clearRunSeconds s).cycle.due = s.cycle.due := by
  unfold clearRunSeconds; split <;> rfl

/-- A record joins the ring with the due reason of the wash (R29, R30). -/
theorem Cycle.InRange.addRecord {s : State} (h : s.cycle.InRange) (hd : s.cycle.due ≠ .none) (o : WashOutcome) :
    (addRecord o s).cycle.InRange :=
  { h with
    recordCount := List.length_take_le _ _
    records := fun r hr => by
      rcases List.mem_cons.1 (List.mem_of_mem_take hr) with rfl | hr
      · exact ⟨hd, h.backwashSeconds⟩
      · exact h.records r hr }

theorem Cycle.InRange.cutShortAs {s : State} (h : s.cycle.InRange) (o : WashOutcome) :
    (cutShortAs o s).cycle.InRange := by
  refine { h with backwashSeconds := ?_ }
  have ht := h.stepTimer
  have hb := h.backwashSeconds
  simp only [Machine.cutShortAs]; split <;> omega

/-- Which channels have confirmed is no part of the law. -/
theorem Cycle.Lawful.confirm {c : Cycle} (h : c.Lawful) (f : ValveFlags) : { c with confirmed := f }.Lawful :=
  { h with }

/-! ### Lockout, recovery, isolation, returning -/

theorem lawful_lockOut {s : State} (h : s.cycle.Lawful) : (lockOut s).cycle.Lawful := by
  unfold lockOut; simp only
  have hr : (if s.cycle.state = .returning then clearOutcome (addRecord .locked s) else s).cycle.InRange := by
    split
    · next hs => exact (h.toInRange.addRecord (h.due (by rw [hs]; rfl)) _).clearOutcome
    · exact h.toInRange
  simpa using hr.enter (new := .lockedOut) nofun nofun

/-- A wash completes into a lawful state: retained it waits with its due reason (R22). -/
theorem lawful_completeWash {s : State} (h : s.cycle.InRange) (hd : s.cycle.due ≠ .none) (o : WashOutcome) :
    (completeWash o s).cycle.Lawful := by
  have hrel : (if o.retained then setBackoff (releaseFinished s) else releaseFinished s).cycle = s.cycle := by
    split <;> rfl
  unfold completeWash; simp only
  generalize (if o.retained then setBackoff (releaseFinished s) else releaseFinished s) = s2 at hrel ⊢
  have h2 : s2.cycle.InRange := hrel ▸ h
  have hd2 : s2.cycle.due ≠ .none := hrel ▸ hd
  have h3 : (clearRunSeconds (addRecord o s2)).cycle.InRange := (h2.addRecord hd2 o).clearRunSeconds
  have hd3 : (clearRunSeconds (addRecord o s2)).cycle.due ≠ .none := by
    rw [clearRunSeconds_due]; exact hd2
  split
  · have := h3.enter (new := .waiting) (fun _ => hd3) nofun
    rw [← enterState_cycle] at this
    exact { this with toInRange := this.toInRange.clearOutcome, outcome := by simp [clearOutcome, hasOutcome] }
  · have := h3.clearDue.enter (new := .inService) nofun nofun
    rw [← enterState_cycle] at this
    have hc : ∀ s5 : State, s5.cycle = (enterState .inService (clearDue (clearRunSeconds (addRecord o s2)))).cycle →
        (clearOutcome s5).cycle.Lawful := by
      intro s5 h5
      rw [← h5] at this
      exact { this with
              toInRange := this.toInRange.clearOutcome,
              outcome := by simp [clearOutcome, h5, hasOutcome] }
    split <;> exact hc _ rfl

theorem lawful_recoveringSettled {s : State} (h : s.cycle.Lawful) : (recoveringSettled s).cycle.Lawful := by
  have hs : (recoveringSettled s).cycle =
      cycleIn (if s.cycle.due = .none then .inService else .waiting) s.cycle := by
    unfold recoveringSettled; generalize (if s.cycle.due = .none then CycleState.inService else .waiting) = new
    simp only; split <;> simp
  rw [hs]
  split
  · exact h.toInRange.enter nofun nofun
  · next hd => exact h.toInRange.enter (fun _ => hd) nofun

theorem lawful_onSettled {s : State} (h : s.cycle.Lawful) : (onSettled s).cycle.Lawful := by
  unfold onSettled; split
  · next hs => exact lawful_completeWash h.toInRange (h.due (by rw [hs]; rfl)) _
  · exact lawful_recoveringSettled h
  · simpa using h.toInRange.enter (new := .isolated) nofun nofun
  · exact h

/-- Entry into a state with a set: what the state asks for has to stand, whatever comes of the command. -/
theorem lawful_enterCommanding {s : State} {new : CycleState} (h : s.cycle.InRange)
    (hd : wantsWash new = true → s.cycle.due ≠ .none) (ho : hasOutcome new = true → s.cycle.outcome.isSome = true)
    (set : ValveSet) : (enterCommanding new set s).cycle.Lawful := by
  have h2 : (commandSet set (enterState new s)).cycle.Lawful := by
    simpa using (h.enter hd ho).confirm _
  unfold enterCommanding; simp only
  split
  · exact lawful_lockOut h2
  · split
    · exact lawful_onSettled h2
    · exact h2

theorem lawful_enterRecovering {s : State} (h : s.cycle.InRange) : (enterRecovering s).cycle.Lawful :=
  lawful_enterCommanding (new := .recovering) h nofun nofun _

theorem lawful_enterReturning {s : State} (h : s.cycle.InRange) (hd : s.cycle.due ≠ .none)
    (ho : s.cycle.outcome.isSome = true) : (enterReturning s).cycle.Lawful :=
  lawful_enterCommanding h (fun _ => hd) (fun _ => ho) _

theorem lawful_isolate {s : State} (h : s.cycle.InRange) : (isolate s).cycle.Lawful :=
  lawful_enterCommanding (new := .isolating) h.clearDue nofun nofun _

/-! ### The wash -/

theorem lawful_cutShort {s : State} (h : s.cycle.InRange) (hd : s.cycle.due ≠ .none) (o : WashOutcome) :
    (cutShort o s).cycle.Lawful := by
  rw [cutShort_eq]
  exact lawful_enterReturning (h.cutShortAs o) hd rfl

theorem lawful_enterStep {s : State} {step : CycleState} (h : s.cycle.InRange) (hd : s.cycle.due ≠ .none)
    (ho : hasOutcome step = true → s.cycle.outcome.isSome = true) : (enterStep step s).cycle.Lawful := by
  have h2 : (commandSet (stepSet step) (enterState step s)).cycle.Lawful := by
    simpa using (h.enter (fun _ => hd) ho).confirm _
  unfold enterStep; simp only
  split
  · exact lawful_cutShort h2.toInRange (by simpa using hd) _
  · exact h2

theorem lawful_endBackwash {s : State} (h : s.cycle.InRange) (hd : s.cycle.due ≠ .none) (o : WashOutcome) :
    (endBackwash o s).cycle.Lawful := by
  rw [endBackwash_eq]
  exact lawful_enterStep (h.cutShortAs o) hd fun _ => rfl

/-- A due reason is latched in every wash step (R3). -/
theorem Cycle.Lawful.due_of_washStep {c : Cycle} (h : c.Lawful) (hs : c.state.washStep = true) : c.due ≠ .none :=
  h.due (by cases hc : c.state <;> simp_all [CycleState.washStep, wantsWash])

/-! ### Valve reports -/

theorem lawful_valveFault {s : State} (h : s.cycle.Lawful) : (valveFault s).cycle.Lawful := by
  have hc : (endContestAtFault s).cycle = s.cycle := by
    unfold endContestAtFault; split <;> rfl
  have hcut : s.cycle.state.washStep = true → (cutShort .cutShortValve s).cycle.Lawful :=
    fun hs => lawful_cutShort h.toInRange (h.due_of_washStep hs) _
  unfold valveFault
  cases hs : s.cycle.state with
  | starting | lockedOut => exact h
  | inService | waiting => exact lawful_enterRecovering h.toInRange
  | contest => exact lawful_enterRecovering (hc ▸ h.toInRange)
  | drainDown | airScour | backwash | settle | rinse => exact hcut (by rw [hs]; rfl)
  | recovering | returning | isolating | isolated => exact lawful_lockOut h

theorem lawful_valveConfirmed {s : State} (h : s.cycle.Lawful) (v : ValveId) :
    (valveConfirmed v s).cycle.Lawful := by
  unfold valveConfirmed; simp only
  split
  · exact lawful_onSettled (h.confirm _)
  · exact h.confirm _

theorem lawful_channelEvent {s : State} (h : s.cycle.Lawful) (v : ValveId) (change : Valve × Report) :
    (channelEvent v change s).cycle.Lawful := by
  unfold channelEvent; simp only
  split
  · simpa using h
  · exact lawful_valveConfirmed (by simpa using h) v
  · exact lawful_valveFault (by simpa using h)

/-! ### Due reasons -/

/-- A due reason other than NONE may replace any. -/
theorem Cycle.Lawful.setDue {c : Cycle} (h : c.Lawful) {r : DueReason} (hr : r ≠ .none) :
    { c with due := r }.Lawful := { h with due := fun _ => hr }

theorem lawful_raiseDue {s : State} (h : s.cycle.InRange) {r : DueReason} (hr : r ≠ .none) :
    (raiseDue r s).cycle.Lawful := by
  have h1 : { s.cycle with due := r, waitMinutes := 0, waitSeconds := 0 }.InRange :=
    { h with waitMinutes := Nat.zero_le _, waitSeconds := Nat.zero_le _ }
  simpa [raiseDue] using h1.enter (new := .waiting) (fun _ => hr) nofun

theorem DueReason.ne_none_of_code_lt {d r : DueReason} (h : d.code < r.code) : r ≠ .none := by
  rintro rfl; exact absurd h (Nat.not_lt_zero _)

theorem lawful_evaluateDue {s : State} (h : s.cycle.Lawful) : (evaluateDue s).cycle.Lawful := by
  unfold evaluateDue; simp only
  split
  · split
    · exact h
    · next hr => exact lawful_raiseDue h.toInRange hr
  · split
    · next hr => exact h.setDue (DueReason.ne_none_of_code_lt hr)
    · exact h
  · split
    · next hr => exact h.setDue (DueReason.ne_none_of_code_lt hr)
    · exact h
  · exact h

theorem Cycle.Lawful.countWait {c : Cycle} (h : c.Lawful) : c.countWait.Lawful := by
  unfold Cycle.countWait
  split
  · exact { h with waitSeconds := by simp only; omega }
  · exact { h with waitSeconds := Nat.zero_le _, waitMinutes := incTo_le _ _ }

theorem lawful_cycleSecond {s : State} (h : s.cycle.Lawful) : (cycleSecond s).cycle.Lawful := by
  have h1 : (if s.cycle.state.filtering then { s.cycle with runSeconds := incTo 4294967295 s.cycle.runSeconds }
      else s.cycle).Lawful := by
    split
    · exact { h with runSeconds := incTo_le _ _ }
    · exact h
  unfold cycleSecond; simp only
  split
  · exact lawful_evaluateDue h1.countWait
  · exact lawful_evaluateDue h1

theorem lawful_operatorWash {s : State} (h : s.cycle.Lawful) : (operatorWash s).cycle.Lawful := by
  unfold operatorWash; split
  · exact lawful_raiseDue h.toInRange (by decide)
  · exact h.setDue (by decide)
  · exact h.setDue (by decide)
  · exact h

/-! ### The contest -/

theorem lawful_tryContest {s : State} (h : s.cycle.Lawful) : (tryContest s).cycle.Lawful := by
  unfold tryContest; split
  · next hc =>
    have hw : s.cycle.state = .waiting := by simp only [Bool.and_eq_true, decide_eq_true_eq] at hc; exact hc.1.1.1
    unfold enterContest; simp only [enterState_cycle]
    exact h.toInRange.enter (fun _ => h.due (by rw [hw]; rfl)) nofun
  · exact h

theorem inContest_state {s : State} (h : inContest s = true) : s.cycle.state = .contest := by
  simp only [inContest, Bool.and_eq_true, decide_eq_true_eq] at h; exact h.1

theorem loseContest_cycle (counted : Bool) (s : State) : (loseContest counted s).cycle = cycleIn .waiting s.cycle := by
  unfold loseContest; simp only; split <;> simp

/-- A contest ends in WAITING, with the due reason of the contest (R94, R96). -/
theorem Cycle.Lawful.backToWaiting {c : Cycle} (h : c.Lawful) (hs : c.state = .contest) :
    (cycleIn .waiting c).Lawful :=
  h.toInRange.enter (fun _ => h.due (by rw [hs]; rfl)) nofun

theorem lawful_endContestUncounted {s : State} (h : s.cycle.Lawful) : (endContestUncounted s).cycle.Lawful := by
  unfold endContestUncounted; split
  · next hc => rw [loseContest_cycle]; exact h.backToWaiting (inContest_state hc)
  · exact h

theorem lawful_takeOverlap {s : State} (h : s.cycle.Lawful) (e : PeerEntry) : (takeOverlap e s).cycle.Lawful := by
  have hcut : s.cycle.state.washStep = true → ∀ x, (cutShort .yielded (s.setArb x)).cycle.Lawful :=
    fun hs x => lawful_cutShort (s := s.setArb x) h.toInRange (h.due_of_washStep hs) _
  unfold takeOverlap; simp only
  split
  · next hc =>
    simp only [Bool.and_eq_true, Bool.or_eq_true, decide_eq_true_eq] at hc
    refine hcut ?_ _
    rcases hc.1 with hs | hs <;> exact (CycleState.washStep_iff _).2 (by simp_all)
  · exact h

theorem lawful_changeReport {s : State} (h : s.cycle.Lawful) (e : Option PeerEntry) :
    (changeReport e s).cycle.Lawful := by
  unfold changeReport
  split
  · next hc =>
    split
    · exact h
    · rw [loseContest_cycle]; exact h.backToWaiting (inContest_state hc)
  · split
    · split
      · exact h
      · split
        · exact h
        · exact lawful_takeOverlap h _
    · exact lawful_tryContest h

theorem lawful_linkOffReport {s : State} (h : s.cycle.Lawful) : (linkOffReport s).cycle.Lawful := by
  unfold linkOffReport
  split
  · next hs => exact lawful_cutShort h.toInRange (h.due_of_washStep hs) _
  · split
    · next hs =>
      have hc : (if s.arb.claim.isIntent then setBackoff (dropClaim s) else s).cycle = s.cycle := by
        split <;> rfl
      rw [enterState_cycle, hc]; exact h.backToWaiting hs
    · exact h

end Sys2Proof.Machine
end

section
/-! SUPPORT. Every command and every tick keeps the cycle law: what an event can do, the bodies of the events one
by one, and the step. -/

namespace Sys2Proof.Machine

/-- What an event can do: nothing while a reset is held, else its body and the close of the event (R159, R32, R134). -/
theorem event_cases {b : Bool} {body : State → State} {s t : State} (h : event b body s = .next t) :
    (s.supplyOk = false ∧ t = s) ∨ (s.supplyOk = true ∧ t = finish s.cycle.state b (body s)) := by
  cases hs : s.supplyOk with
  | false => rw [event_held hs] at h; cases h; exact .inl ⟨rfl, rfl⟩
  | true => rw [event_eq hs] at h; cases h; exact .inr ⟨rfl, rfl⟩

@[simp] theorem finish_cycle (c : CycleState) (b : Bool) (s : State) : (finish c b s).cycle = s.cycle := by
  rw [finish_eq]; rfl

/-! ### The law across the parts of an event -/

theorem CycleOk.of_keeps {s t : State} (h : CycleOk s) (k : Keeps s t) (hl : t.cycle.Lawful) : CycleOk t :=
  ⟨hl, by rw [k.load]; exact h.2⟩

/-! A part of the state that is neither the cycle nor the loader may change. -/

theorem CycleOk.setInputs {s : State} (h : CycleOk s) (x : Inputs) : CycleOk (s.setInputs x) := h

theorem CycleOk.setPeers {s : State} (h : CycleOk s) (x : PeerTable) : CycleOk (s.setPeers x) := h

theorem CycleOk.setArb {s : State} (h : CycleOk s) (x : Arbiter) : CycleOk (s.setArb x) := h

theorem CycleOk.setLink {s : State} (h : CycleOk s) (x : Link) : CycleOk (s.setLink x) := h

theorem CycleOk.setReq {s : State} (h : CycleOk s) (x : Requests) : CycleOk (s.setReq x) := h

theorem CycleOk.setSupplyOk {s : State} (h : CycleOk s) (x : Bool) : CycleOk (s.setSupplyOk x) := h

theorem CycleOk.setPending {s : State} (h : CycleOk s) (x : List Instr) : CycleOk (s.setPending x) := h

theorem cycleOk_event {b : Bool} {body : State → State} {s t : State} (h : CycleOk s) (hb : CycleOk (body s))
    (he : event b body s = .next t) : CycleOk t := by
  rcases event_cases he with ⟨-, rfl⟩ | ⟨-, rfl⟩
  · exact h
  · exact hb.of_keeps (keeps_finish _ _ _) (by rw [finish_cycle]; exact hb.1)

theorem cycleOk_whenDue {due : Bool} {effect : State → State} {s : State} (h : CycleOk s)
    (he : due = true → CycleOk (effect s)) : CycleOk (whenDue due effect s) := by
  unfold whenDue; split
  · next hd => exact he hd
  · exact h

/-- A reset keeps of the cycle the run seconds and the records at most, and the working configuration is that of the
built-in defaults (R159). -/
theorem cycleOk_resetStation {s : State} (h : CycleOk s) (k : ResetKind) : CycleOk (resetStation k s) := by
  have hr : (s.cycle.atReset k).InRange :=
    { waitMinutes := Nat.zero_le _, waitSeconds := Nat.zero_le _, stepTimer := Nat.zero_le _,
      clearHold := Nat.zero_le _, backwashSeconds := Nat.zero_le _
      runSeconds := by cases k <;> first | exact Nat.zero_le _ | exact h.1.runSeconds
      recordCount := by cases k <;> first | exact Nat.zero_le _ | exact h.1.recordCount
      records := by cases k <;> first | exact List.forall_mem_nil _ | exact h.1.records }
  exact ⟨hr.enter (new := .starting) nofun nofun, (by decide : (180 : Nat) ≤ 480)⟩

/-! ### The bodies of the events -/

/-- The bounds of the backwash time stand in their order in every working configuration (R165). -/
theorem settledConfig_backwash (outcome : LoadOutcome) (block : List Byte) :
    (settledConfig outcome block).1.backwashMin ≤ (settledConfig outcome block).1.backwashMax := by
  cases outcome with
  | good => exact Nat.le_max_right _ _
  | absent | checksum | version => exact (by decide : (180 : Nat) ≤ 480)

theorem cycleOk_settleLoad {s : State} (h : CycleOk s) (acks : Bool) (block : List Byte) :
    CycleOk (settleLoad acks block s) := by
  unfold settleLoad; split
  · exact h
  · exact ⟨h.1, settledConfig_backwash _ _⟩

theorem cycleOk_endStarting {s : State} (h : CycleOk s) : CycleOk (endStarting s) := by
  unfold endStarting; split
  · exact h.of_keeps
      ((((keeps_setValves s _).trans (keeps_arbiterSurvey _)).trans (keeps_setDose _ _)).trans
        (keeps_enterRecovering _))
      (lawful_enterRecovering (by simpa using h.1.toInRange))
  · exact h

theorem sampleOwnChannels_cycle (s : State) : (sampleOwnChannels s).cycle = s.cycle := by
  unfold sampleOwnChannels; split <;> rfl

theorem countReadingPeriod_cycle (s : State) : (countReadingPeriod s).cycle = s.cycle := by
  unfold countReadingPeriod
  split
  · split <;> rfl
  · rfl

@[simp] theorem dosingSecond_cycle (s : State) : (dosingSecond s).cycle = s.cycle := by
  rw [dosingSecond, decideDosing, State.setDose_cycle, countReadingPeriod_cycle, sampleOwnChannels_cycle]

theorem cycleOk_secondWork {s : State} (h : CycleOk s) : CycleOk (secondWork s) :=
  h.of_keeps (keeps_secondWork s) (by
    unfold secondWork; rw [dosingSecond_cycle]
    exact lawful_tryContest (lawful_cycleSecond (s := scannerSecond s) h.1))

theorem cycleOk_secondAt {happens : Bool} {s t : State} (h : CycleOk s) (he : secondAt happens s = .next t) :
    CycleOk t := by
  unfold secondAt at he; split at he
  · exact cycleOk_event h (cycleOk_secondWork h) he
  · cases he; exact h

/-- A conversion can set the clear-hold timer to 0 or mark that it counts (R16). -/
theorem lawful_judgeClear {c : Cycle} (h : c.Lawful) (r : ChannelRecord) (level : Nat) :
    (c.judgeClear r level).Lawful := by
  unfold Cycle.judgeClear; split
  · split
    · exact { h with clearHold := Nat.zero_le _, clearHoldIdle := fun _ => rfl }
    · exact { h with }
  · exact h

theorem cycleOk_takeConversion {s : State} (h : CycleOk s) (ch : ChannelId) (count : BitVec 12) :
    CycleOk (takeConversion ch count s) := by
  have hafter : ∀ u : State, CycleOk u → CycleOk (afterConversion ch u) := by
    intro u hu
    unfold afterConversion; split
    · split <;> exact hu
    · exact ⟨lawful_judgeClear hu.1 _ _, hu.2⟩
    all_goals exact hu
  unfold takeConversion; simp only
  split
  · exact hafter _ h
  · exact h

theorem cycleOk_takeSwitch {s : State} (h : CycleOk s) (v : ValveId) (p : Position) (level : Bool) :
    CycleOk (takeSwitch v p level s) := by
  unfold takeSwitch; simp only
  split
  · exact h
  · split
    · exact h
    · exact h.of_keeps (keeps_channelEvent _ _ s) (lawful_channelEvent h.1 _ _)

theorem cycleOk_cutShort {s : State} (h : CycleOk s) (hs : s.cycle.state.washStep = true) (o : WashOutcome) :
    CycleOk (cutShort o s) :=
  h.of_keeps (keeps_cutShort o s) (lawful_cutShort h.1.toInRange (h.1.due_of_washStep hs) o)

theorem cycleOk_endContestUncounted {s : State} (h : CycleOk s) : CycleOk (endContestUncounted s) :=
  h.of_keeps (keeps_endContestUncounted s) (lawful_endContestUncounted h.1)

theorem cycleOk_operatorWash {s : State} (h : CycleOk s) : CycleOk (operatorWash s) :=
  h.of_keeps (keeps_operatorWash s) (lawful_operatorWash h.1)

theorem cycleOk_risingEdge {s : State} (h : CycleOk s) (i : DiscreteInput) : CycleOk (risingEdge i s) := by
  cases i with
  | manualWash =>
    simp only [risingEdge, pressManualWash]; split
    · exact h
    · exact cycleOk_operatorWash h
  | inhibitKey =>
    simp only [risingEdge, keyAsserts]; split
    · exact h
    · exact cycleOk_endContestUncounted h
  | tankLow =>
    simp only [risingEdge, tankRunsLow]; split
    · next hs => exact cycleOk_cutShort h hs _
    · exact cycleOk_endContestUncounted h
  | flowOk | doseFb => exact h

theorem cycleOk_takeInput {s : State} (h : CycleOk s) (i : DiscreteInput) (level : Bool) :
    CycleOk (takeInput i level s) := by
  unfold takeInput; simp only
  split
  · exact h
  · split
    · exact cycleOk_risingEdge (h.setInputs _) i
    · exact h

/-- The end of a step's time, as the next step or RETURNING takes it. -/
theorem cycleOk_of_stepDone {s : State} (h : CycleOk s) {step : CycleState} {seconds : Nat} {effect : State → State}
    (hw : step.washStep = true) (hk : Keeps s (effect s))
    (hl : s.cycle.state = step → s.cycle.due ≠ .none → (effect s).cycle.Lawful) :
    CycleOk (whenDue (stepDone step seconds s) effect s) :=
  cycleOk_whenDue h fun hd => by
    have hs := ((stepDone_iff _ _ _).1 hd).1
    exact h.of_keeps hk (hl hs (h.1.due_of_washStep (by rw [hs]; exact hw)))

theorem backwashClear_state {s : State} (h : backwashClear s = true) : s.cycle.state = .backwash := by
  simp only [backwashClear, Bool.and_eq_true] at h
  exact ((stepDone_iff _ _ _).1 h.1).1

theorem cycleOk_endBackwash {s : State} (h : CycleOk s) (hs : s.cycle.state = .backwash) (o : WashOutcome) :
    CycleOk (endBackwash o s) :=
  h.of_keeps (keeps_endBackwash o s) (lawful_endBackwash h.1.toInRange (h.1.due (by rw [hs]; rfl)) o)

theorem cycleOk_backwashOver {s : State} (h : CycleOk s) : CycleOk (backwashOver s) := by
  unfold backwashOver; split
  · next hc => exact cycleOk_endBackwash h (backwashClear_state hc) _
  · exact cycleOk_whenDue h fun hd => cycleOk_endBackwash h ((stepDone_iff _ _ _).1 hd).1 _

/-! ### What arrives -/

theorem cycleOk_changeReport {s : State} (h : CycleOk s) (e : Option PeerEntry) : CycleOk (changeReport e s) :=
  h.of_keeps (keeps_changeReport e s) (lawful_changeReport h.1 e)

theorem cycleOk_linkOffReport {s : State} (h : CycleOk s) : CycleOk (linkOffReport s) :=
  h.of_keeps (keeps_linkOffReport s) (lawful_linkOffReport h.1)

theorem cycleOk_changeEntry {s : State} (h : CycleOk s) (p : Nat) (e : Option PeerEntry) (b : Bool) :
    CycleOk (changeEntry p e b s) := by
  unfold changeEntry; simp only
  split
  · exact h
  · exact cycleOk_changeReport (h.setPeers _) _

theorem cycleOk_lapseStatus {s : State} (h : CycleOk s) (p : Nat) : CycleOk (lapseStatus p s) := by
  unfold lapseStatus; split
  · split
    · exact cycleOk_changeEntry (h.setPeers _) _ _ _
    · exact h
  · exact h

theorem cycleOk_lapseIntent {s : State} (h : CycleOk s) (p : Nat) : CycleOk (lapseIntent p s) := by
  unfold lapseIntent; split
  · split
    · exact cycleOk_changeEntry h _ _ _
    · exact h
  · exact h

theorem cycleOk_lapseHold {s : State} (h : CycleOk s) (p : Nat) : CycleOk (lapseHold p s) := by
  unfold lapseHold; split
  · split
    · exact cycleOk_changeEntry (h.setPeers _) _ _ _
    · exact h
  · exact h

theorem cycleOk_receiveClaim {s : State} (h : CycleOk s) (p g : Nat) (data : List Byte) :
    CycleOk (receiveClaim p g data s) := by
  unfold receiveClaim; split
  · exact h
  · split
    · split
      · exact h
      · exact cycleOk_changeEntry h _ _ _
    · split
      · exact h
      · exact cycleOk_changeEntry h _ _ _
    · split
      · exact h
      · exact cycleOk_changeEntry h _ _ _
    · exact h

theorem cycleOk_receiveReading {s : State} (h : CycleOk s) (p g : Nat) (data : List Byte) :
    CycleOk (receiveReading p g data s) := by
  have hp : ∀ u : State, CycleOk u → CycleOk (peerReading p g u) := by
    intro u hu
    unfold peerReading; split
    · exact hu
    · exact cycleOk_changeEntry hu _ _ _
  unfold receiveReading; split
  · exact h
  · split
    · exact h
    · exact hp _ h

theorem cycleOk_receiveStatus {s : State} (h : CycleOk s) (p g : Nat) (data : List Byte) :
    CycleOk (receiveStatus p g data s) := by
  unfold receiveStatus; split
  · exact h
  · split
    · exact h
    · exact cycleOk_changeEntry h _ _ _

theorem cycleOk_abandonWash {s : State} (h : CycleOk s) : CycleOk (abandonWash s) := by
  unfold abandonWash; simp only
  split
  · next hs => exact cycleOk_cutShort h hs _
  · have hin : ∀ u : State, CycleOk u → CycleOk (enterState .inService (clearDue u)) := fun u hu =>
      hu.of_keeps ((keeps_clearDue u).trans (keeps_enterState _ _)) (by
        rw [enterState_cycle]; exact hu.1.toInRange.clearDue.enter (new := .inService) nofun nofun)
    split
    · exact hin (withdraw s) h
    · exact hin s h

theorem cycleOk_carryOut {s : State} (h : CycleOk s) (code : RequestCode) : CycleOk (carryOut code s) := by
  cases code with
  | washNow => exact cycleOk_operatorWash h
  | abandonWash => exact cycleOk_abandonWash h
  | inhibitSet =>
    simp only [carryOut, setInhibit]; split
    · exact h
    · exact cycleOk_endContestUncounted (h.setReq _)
  | isolate => exact h.of_keeps ((keeps_clearDue s).trans (keeps_enterCommanding _ _ _)) (lawful_isolate h.1.toInRange)
  | returnToService => exact h.of_keeps (keeps_enterRecovering s) (lawful_enterRecovering h.1.toInRange)
  | inhibitClear | doseReset | readCounters | readWashRecord | clearCounters | restart | clearResetCause => exact h

theorem cycleOk_takeRequest {s : State} (h : CycleOk s) (panel : Nat) (code : RequestCode) (arg : Nat) :
    CycleOk (takeRequest panel code arg s) := by
  unfold takeRequest; simp only
  split
  · exact cycleOk_resetStation h _
  · exact cycleOk_carryOut h code

theorem cycleOk_handleRequest {s : State} (h : CycleOk s) (panel code arg : Nat) :
    CycleOk (handleRequest panel code arg s) := by
  unfold handleRequest; split
  · exact h
  · split
    · exact h
    · split
      · exact h
      · split
        · exact cycleOk_takeRequest h _ _ _
        all_goals exact h

theorem cycleOk_receiveRequest {s : State} (h : CycleOk s) (g : Nat) (data : List Byte) :
    CycleOk (receiveRequest g data s) := by
  unfold receiveRequest
  split
  · exact h
  · exact cycleOk_handleRequest h _ _ _

/-- A frame the link hands on, by its kind (R132). -/
theorem cycleOk_judgeFrame {s : State} (h : CycleOk s) (kind g p : Nat) (data : List Byte) :
    CycleOk (judgeFrame kind g p data s) := by
  unfold judgeFrame
  split
  · exact h
  split
  · exact h
  split
  · exact cycleOk_receiveClaim h _ _ _
  split
  · split
    · exact cycleOk_receiveReading h _ _ _
    · exact h
  split
  · exact cycleOk_receiveStatus h _ _ _
  split
  · exact cycleOk_receiveRequest h _ _
  · exact h

/-- A frame that arrives, whatever it is (R130). -/
theorem cycleOk_receive {s : State} (h : CycleOk s) (f : RxFrame) : CycleOk (receive f s) := by
  unfold receive
  split
  · exact h
  · exact cycleOk_judgeFrame (h.setLink _) _ _ _ _

/-! ### The link and the arbiter -/

theorem cycleOk_failAttempt {s : State} (h : CycleOk s) : CycleOk (failAttempt s) := by
  unfold failAttempt; simp only
  split
  · split
    · exact cycleOk_resetStation (h.setLink _) _
    · exact cycleOk_linkOffReport (h.setLink _)
  · exact h

theorem cycleOk_signalError {s : State} (h : CycleOk s) : CycleOk (signalError s) := by
  unfold signalError; split
  · exact h
  · exact cycleOk_failAttempt h
  · exact cycleOk_failAttempt h

theorem cycleOk_completeTx {s : State} (h : CycleOk s) : CycleOk (completeTx s) := by
  unfold completeTx; split
  · exact h
  · unfold reportCompletion windowStarts; split
    · split
      · split <;> exact h
      all_goals exact h
    · split
      · exact cycleOk_resetStation (h.setLink _) _
      · exact h
    all_goals exact h

theorem cycleOk_windowExpires {s : State} (h : CycleOk s) : CycleOk (windowExpires s) := by
  unfold windowExpires; split
  · split
    · next hc =>
      have hs : s.cycle.state = .contest := by simp only [Bool.and_eq_true, decide_eq_true_eq] at hc; exact hc.1.1
      refine h.of_keeps (keeps_winContest _ s) (lawful_enterStep ?_ ?_ nofun)
      · exact Cycle.InRange.clearOutcome (s := takeHold _ s) h.1.toInRange
      · exact h.1.due (by rw [hs]; rfl)
    · exact h
  all_goals exact h

theorem cycleOk_refreshHold {s : State} (h : CycleOk s) : CycleOk (refreshHold s) := by
  unfold refreshHold; split
  · split <;> exact h
  all_goals exact h

/-! ### The step -/

/-- Every command keeps the cycle law. -/
theorem cycleOk_exec {c : Instr} {s t : State} (h : CycleOk s) (he : exec c s = .next t) : CycleOk t := by
  cases c with
  | powerReset straps => cases he; exact cycleOk_resetStation (s := (setStraps straps s).setSupplyOk true) h _
  | supplyFallsBelowOperatingRange => cases he; exact cycleOk_resetStation (h.setSupplyOk false) _
  | lineReset straps =>
    simp only [exec, execLineReset] at he; cases he
    split
    · exact cycleOk_resetStation (s := setStraps straps s) h _
    · exact h
  | configurationLoadSettles a b r block => exact cycleOk_event h (cycleOk_settleLoad h _ _) he
  | startingEnd => exact cycleOk_event h (cycleOk_endStarting h) he
  | secondTick => exact cycleOk_event h (cycleOk_secondWork h) he
  | loadingHoldReached | breakthroughHoldReached | waitMinute | readingPeriod => exact cycleOk_secondAt h he
  | conversion ch count => exact cycleOk_event h (cycleOk_takeConversion h ch count) he
  | clearHoldReached =>
    refine cycleOk_event h (cycleOk_whenDue h fun hd => ?_) he
    exact cycleOk_endBackwash h (backwashClear_state hd) _
  | drainDownEnd =>
    refine cycleOk_event h (cycleOk_of_stepDone (effect := endDrainDown) h rfl (keeps_enterStep _ s) fun _ hd => ?_) he
    exact lawful_enterStep h.1.toInRange hd (by split <;> nofun)
  | airScourEnd =>
    refine cycleOk_event h (cycleOk_of_stepDone h rfl (keeps_enterStep _ s) fun _ hd => ?_) he
    exact lawful_enterStep h.1.toInRange hd nofun
  | backwashEnd => exact cycleOk_event h (cycleOk_backwashOver h) he
  | settleEnd =>
    refine cycleOk_event h (cycleOk_of_stepDone h rfl (keeps_enterStep _ s) fun hs hd => ?_) he
    exact lawful_enterStep h.1.toInRange hd fun _ => h.1.outcome (by rw [hs]; rfl)
  | rinseEnd =>
    refine cycleOk_event h (cycleOk_of_stepDone h rfl (keeps_enterReturning s) fun hs hd => ?_) he
    exact lawful_enterReturning h.1.toInRange hd (h.1.outcome (by rw [hs]; rfl))
  | limitSwitchChange v p level => exact cycleOk_event h (cycleOk_takeSwitch h v p level) he
  | reversalPauseEnd v =>
    refine cycleOk_event h (cycleOk_whenDue h fun _ => ?_) he
    exact h.of_keeps (keeps_channelEvent _ _ s) (lawful_channelEvent h.1 _ _)
  | travelTimeout v =>
    refine cycleOk_event h (cycleOk_whenDue h fun _ => ?_) he
    exact h.of_keeps (keeps_channelEvent _ _ s) (lawful_channelEvent h.1 _ _)
  | manualWashEdge | inhibitKeyChange _ | tankLowAssert | doseFbEdge | debouncedInputChange _ _ =>
    exact cycleOk_event h (cycleOk_takeInput h _ _) he
  | claimIntentArrival _ _ _ | claimHoldArrival _ _ _ | claimReleaseArrival _ _ _ | statusArrival _ _ _
  | readingArrival _ _ _ | answerArrival _ | washNow _ _ _ _ | abandonWash _ _ _ _ | inhibitSet _ _ _ _
  | inhibitClear _ _ _ _ | isolate _ _ _ _ | returnToService _ _ _ _ | doseReset _ _ _ _ | readCounters _ _ _ _
  | clearCounters _ _ _ _ | readWashRecord _ _ _ _ | restart _ _ _ _ | clearResetCause _ _ _ _
  | unknownRequest _ _ _ _ _ => exact cycleOk_event h (cycleOk_receive h _) he
  | rxSignalError => exact cycleOk_event h (cycleOk_signalError h) he
  | statusLapse p => exact cycleOk_event h (cycleOk_lapseStatus h _) he
  | intentLapse p => exact cycleOk_event h (cycleOk_lapseIntent h _) he
  | holdLapse p => exact cycleOk_event h (cycleOk_lapseHold h _) he
  | contestWindowExpiry => exact cycleOk_event h (cycleOk_windowExpires h) he
  | holdRefresh => exact cycleOk_event h (cycleOk_refreshHold h) he
  | txFailure => exact cycleOk_event h (cycleOk_whenDue h fun _ => cycleOk_failAttempt h) he
  | txCompletion => exact cycleOk_event h (cycleOk_completeTx h) he
  | txAttemptStart => exact cycleOk_event (body := fun s => s.setLink s.link.startAttempt) h (h.setLink _) he
  | lossOfTheMedium => exact cycleOk_event (body := fun s => s.setLink s.link.loseMedium) h (h.setLink _) he
  | readingStale | backoffEnd | offPeriodEnd | connectedLapse | stroke | pulseEnd | feedbackMiss =>
    exact cycleOk_event h (cycleOk_whenDue h fun _ => h) he

/-- A tick counts the step timer and the clear-hold timer where their state has them (R2, R16). -/
theorem Cycle.Lawful.countTick {c : Cycle} (h : c.Lawful) : c.countTick.Lawful := by
  unfold Cycle.countTick; simp only
  split
  · next hw =>
    simp only [Bool.and_eq_true] at hw
    have ht := incTo_le 120000 c.stepTimer
    refine { h with stepTimer := ht, clearHold := ?_, backwashSeconds := ?_, stepTimerIdle := ?_, clearHoldIdle := ?_ }
    · have := incTo_le 2000 c.clearHold
      have := h.clearHold
      simp only; split <;> omega
    · have := h.backwashSeconds
      simp only; split <;> omega
    · intro hn; rw [hw.1] at hn; cases hn
    · intro hb; simpa [hb] using h.clearHoldIdle hb
  · exact h

theorem cycleOk_tick {s : State} (h : CycleOk s) : CycleOk (tick s) := by
  unfold tick; split
  · exact ⟨h.1.countTick, h.2⟩
  · exact h

/-- Settles O57: the cycle law is inductive by itself. -/
theorem everyStepKeepsTheCycleLaw : Obligations.EveryStepKeepsTheCycleLaw := by
  intro s t h hst
  rw [cycleLaw_iff] at h ⊢
  unfold step at hst
  split at hst
  · cases hst; exact cycleOk_tick h
  · exact cycleOk_exec (h.setPending _) hst

end Sys2Proof.Machine
end

section
/-! SUPPORT. How an event ends in the STATUS of a change (R32, R168), and what a second tick leaves of the cycle (R3,
R4, R6, R7). -/

namespace Sys2Proof.Machine

/-! ### The STATUS at the end of an event -/

/-- A STATUS reads of the link its mode alone (R168). -/
theorem statusFrame_setLink {s : State} {l : Link} (h : l.mode = s.link.mode) :
    statusFrame (s.setLink l) = statusFrame s := by
  unfold statusFrame statusData; simp only [State.setLink_link, h]; rfl

@[simp] theorem statusFrame_finish (c : CycleState) (b : Bool) (s : State) :
    statusFrame (finish c b s) = statusFrame s := by
  rw [finish_eq]
  refine statusFrame_setLink ?_
  rw [Link.take_mode]; split
  · exact Link.offer_mode _ _
  · rfl

/-- An event that ends outside STARTING in a change of cycle state, or is a second tick, ends in a STATUS of the state
it leaves. -/
theorem finish_change {c : CycleState} {b : Bool} {s : State} (hs : s.cycle.state ≠ .starting)
    (hb : b = true ∨ s.cycle.state ≠ c) :
    finish c b s = s.setLink (s.link.offer (statusFrame (finish c b s))).take := by
  have h : (s.cycle.state != .starting && (b || s.cycle.state != c)) = true := by
    rcases hb with hb | hb <;> simp [hs, hb]
  rw [statusFrame_finish, finish_eq, h]; rfl

/-- A command that is an event completes in what the event's body and close leave. -/
theorem completes_event {c : Instr} {b : Bool} {body : State → State} {s : State} {P : State → Prop}
    (hs : s.supplyOk = true) (he : exec c s = event b body s) (hP : P (finish s.cycle.state b (body s))) :
    completes c s P := ⟨_, he.trans (event_eq hs b body), hP⟩

/-- A command whose event moves the cycle to a state other than STARTING completes with the STATUS of that change. -/
theorem completes_change {c : Instr} {body : State → State} {s u : State} {P : State → Prop}
    (hs : s.supplyOk = true) (he : exec c s = event false body s) (hu : body s = u)
    (hst : u.cycle.state ≠ .starting) (hch : u.cycle.state ≠ s.cycle.state)
    (hP : ∀ t, t = u.setLink (u.link.offer (statusFrame t)).take → P t) : completes c s P := by
  subst hu
  exact completes_event hs he (hP _ (finish_change hst (.inr hch)))

/-- An event that leaves the cycle state ends in the take into transmission alone (R134). -/
theorem event_quiet_of_body {body : State → State} {s u : State} (hs : s.supplyOk = true) (hu : body s = u)
    (hst : u.cycle.state = s.cycle.state) : event false body s = .next (u.setLink u.link.take) := by
  subst hu; exact event_quiet hs body hst

/-- A STATUS offered to a link that is not OFF waits or is in transmission after the take (R133, R134). -/
theorem Link.take_offer_status {l : Link} {f : TxFrame} (hm : l.mode ≠ .off) (hk : f.kind = .status) :
    (l.offer f).take.status = some f ∨ (l.offer f).take.inTx = some f := by
  rw [Link.offer_status hm hk]
  have hbusy : ∀ g, l.inTx = some g → ({ l with status := some f } : Link).take = { l with status := some f } :=
    fun g hi => Link.take_busy hi
  have hfree : l.inTx = none →
      ({ l with status := some f } : Link).take = ({ l with status := some f } : Link).takeWaiting :=
    fun hi => Link.take_free hi hm
  cases hi : l.inTx with
  | some g => left; rw [← hi, hbusy g hi]
  | none =>
    rw [← hi, hfree hi]
    cases hc : l.claim with
    | some g => left; simp [Link.takeWaiting]
    | none =>
      cases hr : l.reading with
      | some g => left; simp [Link.takeWaiting]
      | none => right; simp [Link.takeWaiting]

/-- A named second tick is a second tick, or without effect (log 4). -/
theorem secondAt_cases (happens : Bool) (s : State) :
    secondAt happens s = event true secondWork s ∨ secondAt happens s = .next s := by
  cases happens
  · exact .inr rfl
  · exact .inl rfl

/-- What a command can be: an event, which SECOND_TICK is with its STATUS offered in any case; without effect; or the
end of a reset, in STARTING. -/
theorem exec_cases (c : Instr) (s : State) :
    (∃ b body, exec c s = event b body s ∧ (c = .secondTick → b = true))
    ∨ (exec c s = .next s ∧ c ≠ .secondTick)
    ∨ ∃ u, exec c s = .next u ∧ u.cycle.state = .starting := by
  cases c with
  | powerReset straps | supplyFallsBelowOperatingRange => exact .inr (.inr ⟨_, rfl, rfl⟩)
  | lineReset straps =>
    cases hs : s.supplyOk with
    | true => exact .inr (.inr ⟨resetStation .line (setStraps straps s), by simp [exec, execLineReset, hs], rfl⟩)
    | false => exact .inr (.inl ⟨by simp [exec, execLineReset, hs], nofun⟩)
  | secondTick => exact .inl ⟨true, secondWork, rfl, fun _ => rfl⟩
  | loadingHoldReached | breakthroughHoldReached | waitMinute | readingPeriod =>
    exact (secondAt_cases _ s).elim (fun h => .inl ⟨true, secondWork, h, nofun⟩) fun h => .inr (.inl ⟨h, nofun⟩)
  | txAttemptStart => exact .inl ⟨false, fun s => s.setLink s.link.startAttempt, rfl, nofun⟩
  | lossOfTheMedium => exact .inl ⟨false, fun s => s.setLink s.link.loseMedium, rfl, nofun⟩
  | _ => exact .inl ⟨_, _, rfl, nofun⟩

/-- Settles O5: by what a command can be; an event ends in its STATUS, and neither a reset nor a command without effect
is asked for one. -/
theorem statusIsOfferedAtEveryChange : Obligations.StatusIsOfferedAtEveryChange := by
  intro c s hs
  rcases exec_cases c s with ⟨b, body, he, hb⟩ | ⟨he, hc⟩ | ⟨u, he, hu⟩
  · refine completes_event hs he fun hst hm hch => ?_
    rw [finish_cycle] at hst hch
    have hf := finish_change (b := b) hst (hch.symm.imp_left hb)
    have hmode : (body s).link.mode ≠ .off := by
      intro h; rw [hf] at hm; simp [h] at hm
    have hframe := Link.take_offer_status (f := statusFrame (finish s.cycle.state b (body s))) hmode rfl
    rw [hf, State.setLink_link, ← hf]
    exact hframe
  · exact ⟨s, he, fun _ _ hch => absurd hch (by simp [hc])⟩
  · exact ⟨u, he, fun hst => absurd hu hst⟩

/-! ### The second tick -/

/-- The run seconds count (R6). -/
def Cycle.countRun (c : Cycle) : Cycle := { c with runSeconds := incTo 4294967295 c.runSeconds }

/-- The due condition reads of the cycle the run seconds alone (R3). -/
theorem dueCondition_setCycle (s : State) (c : Cycle) :
    (s.setCycle c).dueCondition =
      if s.breakthroughPresented then .turbidity
      else if s.loadingPresented then .loading
      else if s.cfg.maxRun ≠ 0 ∧ s.cfg.maxRun ≤ c.runSeconds / 3600 then .runtime
      else .none := by
  have hr : (s.setCycle c).runtimeDue = decide (s.cfg.maxRun ≠ 0 ∧ s.cfg.maxRun ≤ c.runSeconds / 3600) := by
    simp [State.runtimeDue, Cycle.runHours, bne, State.cfg]; rfl
  unfold State.dueCondition; rw [hr]
  simp only [decide_eq_true_eq]; rfl

/-- An upgrade: the due condition replaces a due reason of lower code (R4). -/
def Cycle.upgrade (c : Cycle) (r : DueReason) : Cycle := { c with due := if c.due.code < r.code then r else c.due }

theorem Cycle.upgrade_eq_self {c : Cycle} {r : DueReason} (h : ¬ c.due.code < r.code) : c.upgrade r = c := by
  unfold Cycle.upgrade; rw [if_neg h]

theorem evaluateDue_inService {s : State} (h : s.cycle.state = .inService) :
    evaluateDue s = if s.dueCondition = .none then s else raiseDue s.dueCondition s := by
  unfold evaluateDue; rw [h]

theorem evaluateDue_upgrade {s : State} (h : s.cycle.state = .waiting ∨ s.cycle.state = .contest) :
    evaluateDue s = s.setCycle (s.cycle.upgrade s.dueCondition) := by
  by_cases hr : s.cycle.due.code < s.dueCondition.code
  · unfold evaluateDue Cycle.upgrade
    rcases h with h | h <;> rw [h] <;> simp only [if_pos hr] <;> rw [← h]
  · unfold evaluateDue
    rw [Cycle.upgrade_eq_self hr, State.setCycle_self]
    rcases h with h | h <;> rw [h] <;> simp only [if_neg hr]

theorem cycleSecond_of_waiting {s : State} (h : s.cycle.state = .waiting) :
    cycleSecond s = evaluateDue (s.setCycle s.cycle.countRun.countWait) := by
  have hf : s.cycle.state.filtering = true := by rw [h]; rfl
  unfold cycleSecond; simp only [if_pos hf, if_pos h]; rfl

theorem cycleSecond_of_filtering {s : State} (hf : s.cycle.state.filtering = true) (h : s.cycle.state ≠ .waiting) :
    cycleSecond s = evaluateDue (s.setCycle s.cycle.countRun) := by
  unfold cycleSecond; simp only [if_pos hf, if_neg h]; rfl

theorem Cycle.countWait_state (c : Cycle) : c.countWait.state = c.state := by
  unfold Cycle.countWait; split <;> rfl

theorem Cycle.countWait_runSeconds (c : Cycle) : c.countWait.runSeconds = c.runSeconds := by
  unfold Cycle.countWait; split <;> rfl

theorem cycleSecond_not_filtering {s : State} (h : s.cycle.state.filtering = false) : cycleSecond s = s := by
  have hw : s.cycle.state ≠ .waiting := by intro hs; simp [hs, CycleState.filtering] at h
  unfold cycleSecond; simp only [h, hw, Bool.false_eq_true, if_false, State.setCycle_self]
  unfold evaluateDue
  cases hs : s.cycle.state <;> simp_all [CycleState.filtering]

/-- A contest may be entered from WAITING (R92). -/
theorem tryContest_cycle (s : State) :
    (tryContest s).cycle = s.cycle ∨ (s.cycle.state = .waiting ∧ (tryContest s).cycle = cycleIn .contest s.cycle) := by
  unfold tryContest; split
  · next hc =>
    simp only [Bool.and_eq_true, decide_eq_true_eq] at hc
    exact .inr ⟨hc.1.1.1, by unfold enterContest; rw [enterState_cycle]; rfl⟩
  · exact .inl rfl

@[simp] theorem tryContest_due (s : State) : (tryContest s).cycle.due = s.cycle.due := by
  rcases tryContest_cycle s with h | ⟨-, h⟩ <;> rw [h]; rfl

@[simp] theorem tryContest_waitMinutes (s : State) : (tryContest s).cycle.waitMinutes = s.cycle.waitMinutes := by
  rcases tryContest_cycle s with h | ⟨-, h⟩ <;> rw [h]; rfl

@[simp] theorem tryContest_waitSeconds (s : State) : (tryContest s).cycle.waitSeconds = s.cycle.waitSeconds := by
  rcases tryContest_cycle s with h | ⟨-, h⟩ <;> rw [h]; rfl

@[simp] theorem tryContest_runSeconds (s : State) : (tryContest s).cycle.runSeconds = s.cycle.runSeconds := by
  rcases tryContest_cycle s with h | ⟨-, h⟩ <;> rw [h]; rfl

@[simp] theorem tryContest_records (s : State) : (tryContest s).cycle.records = s.cycle.records := by
  rcases tryContest_cycle s with h | ⟨-, h⟩ <;> rw [h]; rfl

theorem tryContest_state {s : State} (h : s.cycle.state = .waiting) :
    (tryContest s).cycle.state = .waiting ∨ (tryContest s).cycle.state = .contest := by
  rcases tryContest_cycle s with hc | ⟨-, hc⟩ <;> rw [hc]
  · exact .inl h
  · exact .inr rfl

theorem tryContest_eq_self {s : State} (h : s.cycle.state ≠ .waiting) : tryContest s = s := by
  unfold tryContest; simp [h]

theorem sampleOwnChannels_arb (s : State) : (sampleOwnChannels s).arb = s.arb := by
  unfold sampleOwnChannels; split <;> rfl

theorem countReadingPeriod_arb (s : State) : (countReadingPeriod s).arb = s.arb := by
  unfold countReadingPeriod
  split
  · split <;> rfl
  · rfl

@[simp] theorem dosingSecond_arb (s : State) : (dosingSecond s).arb = s.arb := by
  rw [dosingSecond, decideDosing, State.setDose_arb, countReadingPeriod_arb, sampleOwnChannels_arb]

/-- A second tick leaves of the cycle what the cycle controller and the contest entry after it leave. -/
theorem secondTick_cycle (s : State) :
    (finish s.cycle.state true (secondWork s)).cycle = (tryContest (cycleSecond (scannerSecond s))).cycle := by
  rw [finish_cycle, secondWork, dosingSecond_cycle]

theorem secondTick_arb (s : State) :
    (finish s.cycle.state true (secondWork s)).arb = (tryContest (cycleSecond (scannerSecond s))).arb := by
  rw [finish_eq, State.setLink_arb, secondWork, dosingSecond_arb]

/-- Settles O13: state by state, from what the cycle controller does at the second tick and the contest entry after
it. -/
theorem secondTickCountsAndRaisesTheDueReason : Obligations.SecondTickCountsAndRaisesTheDueReason := by
  intro s hs run r
  refine completes_event hs rfl ?_
  rw [secondTick_cycle, secondTick_arb]
  have hcycle : (scannerSecond s).cycle = s.cycle := rfl
  generalize hu : scannerSecond s = u at hcycle ⊢
  have hdue : ∀ c : Cycle, c.runSeconds = run → (u.setCycle c).dueCondition = r := fun c hc => by
    rw [dueCondition_setCycle, hc, ← hu]; rfl
  cases hf : s.cycle.state.filtering with
  | false =>
    have hw : s.cycle.state ≠ .waiting ∧ s.cycle.state ≠ .inService ∧ s.cycle.state ≠ .contest := by
      refine ⟨?_, ?_, ?_⟩ <;> intro h <;> rw [h] at hf <;> cases hf
    have hc : tryContest (cycleSecond u) = u := by
      rw [cycleSecond_not_filtering (hcycle ▸ hf)]; exact tryContest_eq_self (hcycle ▸ hw.1)
    simp [hc, hcycle, hw, run, hf]
  | true =>
    have hrun : s.cycle.countRun = { s.cycle with runSeconds := run } := by simp [run, hf, Cycle.countRun]
    have hd : (u.setCycle u.cycle.countRun).dueCondition = r := hdue _ (by rw [hcycle, hrun])
    rcases (CycleState.filtering_iff _).1 hf with h | h | h
    · have hc : cycleSecond u = _ := cycleSecond_of_filtering (hcycle ▸ hf) (by rw [hcycle, h]; decide)
      rw [evaluateDue_inService (by rw [State.setCycle_cycle, hcycle]; exact h), hd, hcycle, hrun] at hc
      by_cases hr : r = .none
      · rw [if_pos hr] at hc
        rw [hc, tryContest_eq_self (by simp [h])]
        simp [h, hr]
      · rw [if_neg hr] at hc
        have hcyc : (cycleSecond u).cycle = _ := congrArg State.cycle hc
        rw [raiseDue, enterState_cycle] at hcyc
        have hw := tryContest_state (s := cycleSecond u) (by rw [hcyc]; rfl)
        simp [h, hr, hw, hcyc]
    · have hcyc : (cycleSecond u).cycle = _ := congrArg State.cycle (cycleSecond_of_waiting (hcycle ▸ h))
      rw [evaluateDue_upgrade (.inl (by simp [hcycle, h, Cycle.countWait_state, Cycle.countRun])), hcycle, hrun,
        hdue _ (Cycle.countWait_runSeconds _)] at hcyc
      have hw := tryContest_state (s := cycleSecond u) (by
        rw [hcyc]; exact (Cycle.countWait_state _).trans h)
      by_cases h59 : s.cycle.waitSeconds < 59
      · simp [h, hw, hcyc, Cycle.upgrade, Cycle.countWait, h59]
      · simp [h, hw, hcyc, Cycle.upgrade, Cycle.countWait, h59]
    · have hc : cycleSecond u = _ := cycleSecond_of_filtering (hcycle ▸ hf) (by rw [hcycle, h]; decide)
      rw [evaluateDue_upgrade (.inr (by rw [State.setCycle_cycle, hcycle]; exact h)), hd, hcycle, hrun] at hc
      rw [hc, tryContest_eq_self (by simp [h, Cycle.upgrade])]
      simp [h, Cycle.upgrade, ← hu, scannerSecond]

end Sys2Proof.Machine
end

section
/-! SUPPORT. The wash from step to step (R13 to R17), cut short (R18) and completed (R22): what the entries into a wash
step and into RETURNING leave, and the completion as one update. -/

namespace Sys2Proof.Machine

/-! ### The steps -/

/-- Out of a state that is no filtering state a wash step is entered with its set commanded and nothing else changed,
where no channel faults at its command (R2, R20). -/
theorem enterStep_eq {s : State} {step : CycleState} (hw : step.washStep = true)
    (hf : s.cycle.state.filtering = false) (hb : noBothAsserted s = true) :
    enterStep step s = commandedTo (stepSet step) (s.setCycle (cycleIn step s.cycle)) := by
  have hwash : (s.setCycle (cycleIn step s.cycle)).cycle.state.washing = true := by
    simp [CycleState.washing, hw]
  unfold enterStep; simp only [enterState_of_not_filtering hf]
  rw [commandSet_of_washing hwash, State.setCycle_valves, commandFaults_of_noBothAsserted hb]; rfl

theorem CycleState.washStep_not_filtering {c : CycleState} (h : c.washStep = true) : c.filtering = false := by
  cases c <;> first | rfl | cases h

/-- A command whose event enters a wash step from a wash step completes with that step entered. -/
theorem completes_stepEntered {c : Instr} {body : State → State} {s m : State} {step : CycleState}
    (hs : s.supplyOk = true) (he : exec c s = event false body s) (hbody : body s = enterStep step m)
    (hw : step.washStep = true) (hm : m.cycle.state = s.cycle.state) (hold : s.cycle.state.washStep = true)
    (hne : step ≠ s.cycle.state) (hb : noBothAsserted m = true) :
    completes c s (stepEntered step m) := by
  have hf : m.cycle.state.filtering = false := by rw [hm]; exact CycleState.washStep_not_filtering hold
  have hst : step ≠ .starting := by rintro rfl; cases hw
  exact completes_change hs he (hbody.trans (enterStep_eq hw hf hb)) hst hne fun t ht => ht

/-- The end of a step's time is taken where the step timer stands at it. -/
theorem whenDue_stepDone {s : State} {step : CycleState} {seconds : Nat} (hst : s.cycle.state = step)
    (hset : s.settled = true) (ht : seconds * 100 ≤ s.cycle.stepTimer) (effect : State → State) :
    whenDue (stepDone step seconds s) effect s = effect s := by
  unfold whenDue; rw [if_pos ((stepDone_iff _ _ _).2 ⟨hst, hset, ht⟩)]

/-- Settles O20: each of the three ends enters its next step. -/
theorem washStepsFollowOneAnother : Obligations.WashStepsFollowOneAnother := by
  intro s hs hb hset
  refine ⟨fun hst ht => ?_, fun hst ht => ?_, fun hst ht => ?_⟩
  · refine completes_stepEntered hs rfl (whenDue_stepDone hst hset ht _) ?_ rfl (by rw [hst]; rfl) ?_ hb
    · split <;> rfl
    · rw [hst]; split <;> decide
  · exact completes_stepEntered hs rfl (whenDue_stepDone hst hset ht _) rfl rfl (by rw [hst]; rfl)
      (by rw [hst]; decide) hb
  · exact completes_stepEntered hs rfl (whenDue_stepDone hst hset ht _) rfl rfl (by rw [hst]; rfl)
      (by rw [hst]; decide) hb

/-! ### BACKWASH -/

theorem backwashClear_iff (s : State) :
    backwashClear s = true ↔ stepTimeReached .backwash s.cfg.backwashMin s ∧ 2000 ≤ s.cycle.clearHold := by
  simp [backwashClear, stepDone_iff]

/-- The end of BACKWASH with an outcome, whichever command tells it (R15). -/
theorem completes_backwashEnded {c : Instr} {body : State → State} {s : State} (hs : s.supplyOk = true)
    (hb : noBothAsserted s = true) (hst : s.cycle.state = .backwash) (he : exec c s = event false body s)
    {o : WashOutcome} (hbody : body s = endBackwash o s) :
    completes c s (stepEntered .settle
      (s.setCycle { s.cycle with outcome := some o, backwashSeconds := s.cycle.stepTimer / 100 })) := by
  have hm : cutShortAs o s =
      s.setCycle { s.cycle with outcome := some o, backwashSeconds := s.cycle.stepTimer / 100 } := by
    unfold cutShortAs; rw [if_pos hst]; rfl
  rw [endBackwash_eq, hm] at hbody
  exact completes_stepEntered hs he hbody rfl rfl (by rw [hst]; rfl) (by rw [hst]; decide) hb

/-- Settles O21: by whether the clear has been held, and whether the minimum has run. -/
theorem backwashEndsClearOrAtItsMaximum : Obligations.BackwashEndsClearOrAtItsMaximum := by
  intro s hs hb hset hst ended
  refine ⟨fun hmin hclear => ?_, fun _ hmax hclear => ?_, fun hmin => ?_⟩
  · have hc : backwashClear s = true := (backwashClear_iff s).2 ⟨⟨hst, hset, hmin⟩, hclear⟩
    exact ⟨completes_backwashEnded hs hb hst rfl (by simp [backwashOver, hc]),
      completes_backwashEnded hs hb hst rfl (by simp [clearHoldReached, whenDue, hc])⟩
  · have hc : backwashClear s = false := by
      rw [Bool.eq_false_iff]; intro h; have := ((backwashClear_iff s).1 h).2; omega
    refine completes_backwashEnded hs hb hst rfl ?_
    rw [backwashOver, hc]; exact whenDue_stepDone hst hset hmax _
  · have hc : backwashClear s = false := by
      rw [Bool.eq_false_iff]; intro h
      obtain ⟨⟨-, -, ht⟩, -⟩ := (backwashClear_iff s).1 h
      omega
    have hbody : clearHoldReached s = s := by simp [clearHoldReached, whenDue, hc]
    exact event_quiet_of_body hs hbody rfl

/-! ### States with a set -/

theorem noBothAsserted_enterState (new : CycleState) (s : State) :
    noBothAsserted (enterState new s) = noBothAsserted s := by
  unfold noBothAsserted; rw [enterState_valves]

/-- A state with a set is entered, no channel faulting and no waste valve reporting: the set is commanded, and where it
stands already it is settled at that event (R2). -/
theorem enterCommanding_eq {s : State} {new : CycleState} {set : ValveSet} (hb : noBothAsserted s = true)
    (hcmd : commandSet set (enterState new s) = commandedTo set (enterState new s)) :
    enterCommanding new set s =
      if standsAt set s then onSettled (commandedTo set (enterState new s))
      else commandedTo set (enterState new s) := by
  have hset : (commandedTo set (enterState new s)).settled = standsAt set s := by
    show ((enterState new s).valves.confirmations set).all = _
    rw [enterState_valves, confirmations_all]
  unfold enterCommanding
  simp only [hcmd, commandFaults_of_noBothAsserted ((noBothAsserted_enterState new s).trans hb), hset]
  rfl

/-- RETURNING entered from `s` with the SERVICE set commanded (R21). -/
def inReturning (s : State) : State := commandedTo serviceSet (s.setCycle (cycleIn .returning s.cycle))

theorem enterReturning_eq {s : State} (hf : s.cycle.state.filtering = false) (hb : noBothAsserted s = true) :
    enterReturning s =
      if standsAt serviceSet s then completeWash (s.cycle.outcome.getD .abandoned) (inReturning s)
      else inReturning s := by
  unfold enterReturning
  rw [enterCommanding_eq hb (commandSet_of_washing (by rw [enterState_cycle]; rfl) _), enterState_of_not_filtering hf]
  rfl

/-- A command whose event enters RETURNING, with the offers that gave link `l`, completes with RETURNING entered. -/
theorem completes_returningEntered {c : Instr} {body : State → State} {s m : State} {l : Link}
    (hs : s.supplyOk = true) (he : exec c s = event false body s) (hbody : body s = (inReturning m).setLink l)
    (hne : s.cycle.state ≠ .returning) : completes c s (returningEntered l m) :=
  completes_change hs he hbody (by decide : CycleState.returning ≠ .starting) hne.symm fun _ ht => ht

/-! ### The completion of a wash -/

theorem completeWash_state (o : WashOutcome) (s : State) :
    (completeWash o s).cycle.state = if o.retained then .waiting else .inService := by
  cases o <;> simp [completeWash, clearOutcome, WashOutcome.retained, WashOutcome.clean, cleanBedSignal]

theorem clearRunSeconds_eq (s : State) :
    clearRunSeconds s =
      s.setCycle
        { s.cycle with
          runSeconds := if s.cfg.backwashMin ≤ s.cycle.backwashSeconds then 0 else s.cycle.runSeconds } := by
  unfold clearRunSeconds; split <;> rfl

theorem completeWash_link (o : WashOutcome) (s : State) : (completeWash o s).link = releasedLink s s.link := by
  unfold completeWash; simp only [clearRunSeconds_eq]
  cases o <;> simp [WashOutcome.retained, WashOutcome.clean, clearOutcome, cleanBedSignal] <;> rfl

theorem WashOutcome.retained_iff (o : WashOutcome) :
    o.retained = true ↔ o = .yielded ∨ o = .cutShortTank ∨ o = .cutShortLink := by cases o <;> decide

theorem WashOutcome.clean_iff (o : WashOutcome) : o.clean = true ↔ o = .complete ∨ o = .completeUnclear := by
  cases o <;> decide

theorem WashOutcome.not_clean_of_retained {o : WashOutcome} (h : o.retained = true) : o.clean = false := by
  cases o <;> first | rfl | cases h

/-- To be one state and to be another is the same, where the two are equal. -/
theorem eq_iff_eq_of_eq {a b : State} (h : a = b) (t : State) : t = a ↔ t = b := by rw [h]

/-- The completion out of a state that is no filtering state is R22's update (R22, R29, R30, R103). -/
theorem washCompleted_iff {m : State} (hf : m.cycle.state.filtering = false) (o : WashOutcome) (l : Link) (t : State) :
    washCompleted o l m t ↔ t = (completeWash o m).setLink (l.offer (statusFrame t)).take := by
  refine eq_iff_eq_of_eq ?_ t
  unfold completeWash
  simp only [clearRunSeconds_eq, ← WashOutcome.retained_iff, ← WashOutcome.clean_iff]
  by_cases hr : o.retained = true
  · simp only [hr, WashOutcome.not_clean_of_retained hr, if_true, if_false, Bool.false_eq_true]
    rw [enterState_of_not_filtering]
    · simp only [clearOutcome, addRecord, setBackoff, releaseFinished, offerRelease, offer, State.setLink_arb,
        State.setArb_arb, State.setArb_load, State.setLink_load, State.setArb_setArb, State.setArb_cycle,
        State.setLink_cycle, State.setCycle_cycle, State.setCycle_setCycle]
      rfl
    · exact hf
  · simp only [hr, if_false, Bool.false_eq_true]
    rw [enterState_of_not_filtering]
    · simp only [clearOutcome, cleanBedSignal, clearDue, addRecord, releaseFinished, offerRelease, offer,
        State.setLink_arb, State.setArb_cycle, State.setLink_cycle, State.setCycle_cycle, State.setCycle_setCycle]
      split <;> rfl
    · exact hf

/-- A command whose event completes a wash, with the offers that gave link `l`, completes with that wash completed. -/
theorem completes_washCompleted {c : Instr} {body : State → State} {s m : State} {o : WashOutcome} {l : Link}
    (hs : s.supplyOk = true) (he : exec c s = event false body s) (hf : m.cycle.state.filtering = false)
    (hbody : body s = (completeWash o m).setLink l) (hne : s.cycle.state.filtering = false) :
    completes c s (washCompleted o l m) := by
  have hstate : ((completeWash o m).setLink l).cycle.state.filtering = true := by
    rw [State.setLink_cycle, completeWash_state]; split <;> rfl
  refine completes_change hs he hbody ?_ ?_ fun t ht => (washCompleted_iff hf o l t).2 ht
  · intro h; rw [h] at hstate; cases hstate
  · intro h; rw [h, hne] at hstate; cases hstate

/-- The completion at the command of the SERVICE set: RETURNING was entered at the same event. -/
theorem completes_washCompletedAtOnce {c : Instr} {body : State → State} {s m : State} {o : WashOutcome} {l : Link}
    (hs : s.supplyOk = true) (he : exec c s = event false body s)
    (hbody : body s = (completeWash o (inReturning m)).setLink l) (hne : s.cycle.state.filtering = false) :
    completes c s (washCompleted o l (commandedTo serviceSet m)) :=
  completes_washCompleted (m := inReturning m) hs he rfl hbody hne

theorem completeWash_setLink (o : WashOutcome) (s : State) :
    (completeWash o s).setLink (releasedLink s s.link) = completeWash o s := by
  rw [← completeWash_link, State.setLink_self]

/-- Settles O22: by whether every channel stands in the SERVICE set already. -/
theorem rinseEndsInReturning : Obligations.RinseEndsInReturning := by
  intro s hs hb hset hst ht
  have hf : s.cycle.state.filtering = false := by rw [hst]; rfl
  have hbody : whenDue (stepDone .rinse s.cfg.rinseTime s) enterReturning s = _ :=
    (whenDue_stepDone hst hset ht _).trans (enterReturning_eq hf hb)
  constructor
  · intro hat
    rw [hat] at hbody
    exact completes_returningEntered hs rfl hbody (by rw [hst]; decide)
  · intro hat
    rw [hat, if_pos rfl, ← completeWash_setLink] at hbody
    have hdone := fun o (ho : s.cycle.outcome.getD .abandoned = o) =>
      completes_washCompletedAtOnce (c := .rinseEnd) hs rfl (ho ▸ hbody) hf
    refine ⟨?_, fun o ho => hdone o (by rw [ho]; rfl)⟩
    obtain ⟨t, he, hw⟩ := hdone _ rfl
    refine ⟨t, he, ?_⟩
    rw [washCompleted_iff (m := commandedTo serviceSet s) hf] at hw
    show t.cycle.state = .inService ∨ t.cycle.state = .waiting
    rw [hw, State.setLink_cycle, completeWash_state]
    split
    · exact .inr rfl
    · exact .inl rfl

/-- A wash step cut short: RETURNING, or the wash completed at once (R18, R21, R22). -/
theorem cutShort_cases {s : State} (hf : s.cycle.state.filtering = false) (hb : noBothAsserted s = true)
    (o : WashOutcome) :
    cutShort o s =
      if standsAt serviceSet s then completeWash o (inReturning (cutShortAs o s))
      else inReturning (cutShortAs o s) := by
  rw [cutShort_eq, enterReturning_eq (s := cutShortAs o s) hf hb]; rfl

/-- Settles O23: TANK_LOW cuts the step short, and RETURNING is over at once where the SERVICE set stands. -/
theorem tankLowCutsAWashShort : Obligations.TankLowCutsAWashShort := by
  intro s hs hb hw hlow low
  have hwash : low.cycle.state.washStep = true := hw
  have hf : low.cycle.state.filtering = false := CycleState.washStep_not_filtering hwash
  have hbody : takeInput .tankLow true s = cutShort .cutShortTank low := by
    have hl : ¬ true = (s.inputs.get .tankLow).level := by simp [Inputs.get, hlow]
    unfold takeInput; simp only [if_neg hl, if_true]
    show tankRunsLow low = _
    unfold tankRunsLow; rw [if_pos hwash]
  rw [cutShort_cases (s := low) hf hb] at hbody
  have hsame : standsAt serviceSet low = standsAt serviceSet s := rfl
  refine ⟨fun hat => ?_, fun hat => ?_⟩
  · rw [hsame, hat] at hbody
    refine completes_returningEntered hs rfl hbody ?_
    rintro h; rw [h] at hw; cases hw
  · rw [hsame, hat, if_pos rfl, ← completeWash_setLink] at hbody
    exact completes_washCompletedAtOnce hs rfl hbody hf

/-! ### The last arrival -/

/-- A travelling channel whose other switch is released settles and confirms as the switch of its target asserts
(R60). -/
theorem switchChanged_arrives {c : Valve} {p : Position} (hst : c.state = towards p)
    (hother : (c.switch p.other).level = false) :
    (c.setSwitch p (.changeTo true)).switchChanged p true =
      ((c.setSwitch p (.changeTo true)).settleAt p, .confirmation) := by
  have hb : (c.setSwitch p (.changeTo true)).bothAsserted = false := by
    cases p <;> simp_all [Valve.bothAsserted, Valve.setSwitch, Valve.switch, Position.other]
  unfold Valve.switchChanged; rw [hb]
  cases p <;> simp [hst, towards]

/-- A confirmation in RETURNING that settles the SERVICE set completes the wash (R2, R22). -/
theorem valveConfirmed_last {v : ValveId} {o : WashOutcome} {s : State} (hst : s.cycle.state = .returning)
    (ho : s.cycle.outcome = some o) (hv : s.cycle.confirmed.get v = false)
    (hothers : ∀ other, other ≠ v → s.cycle.confirmed.get other = true) :
    valveConfirmed v s =
      completeWash o (s.setCycle { s.cycle with confirmed := s.cycle.confirmed.mark v }) := by
  have hbefore : s.settled = false := by
    rw [Bool.eq_false_iff]; intro h
    rw [(ValveFlags.all_iff _).1 h v] at hv; cases hv
  have hafter : (s.setCycle { s.cycle with confirmed := s.cycle.confirmed.mark v }).settled = true := by
    refine (ValveFlags.all_iff _).2 fun w => ?_
    by_cases hw : w = v
    · simp [hw]
    · simp [hothers w hw]
  unfold valveConfirmed; simp only [hbefore, hafter]
  simp [onSettled, hst, ho]

/-- In RETURNING the channel that is last on its way completes the wash as the switch of its target asserts. -/
theorem takeSwitch_last {v : ValveId} {o : WashOutcome} {s : State} (hst : s.cycle.state = .returning)
    (ho : s.cycle.outcome = some o) (hstate : (s.valves.get v).state = towards (serviceSet v))
    (hlevel : ((s.valves.get v).switch (serviceSet v)).level = false)
    (hother : ((s.valves.get v).switch (serviceSet v).other).level = false)
    (hv : s.cycle.confirmed.get v = false) (hothers : ∀ other, other ≠ v → s.cycle.confirmed.get other = true) :
    takeSwitch v (serviceSet v) true s =
      completeWash o
        (settledBy v (serviceSet v) ((s.valves.get v).setSwitch (serviceSet v) (.changeTo true)) s) := by
  have hne : ¬ true = ((s.valves.get v).switch (serviceSet v)).level := by simp [hlevel]
  have hns : ¬ s.cycle.state = .starting := by rw [hst]; decide
  unfold takeSwitch; simp only [if_neg hne, if_neg hns, switchChanged_arrives hstate hother]
  unfold channelEvent; simp only
  rw [wasteReport_eq_self (by rw [State.setValves_cycle, hst]; decide)
    (.inl (by rw [State.setValves_cycle, hst]; rfl))]
  exact valveConfirmed_last hst ho hv hothers

/-- A completed wash touches the cycle, the arbiter, the scanner and the link alone (R22). -/
theorem washCompleted_frame {o : WashOutcome} {l : Link} {m t : State} (h : washCompleted o l m t) :
    t = { m with cycle := t.cycle, arb := t.arb, scan := t.scan, link := t.link } := by
  have ht : t = _ := h
  generalize statusFrame t = f at ht
  subst ht; rfl

/-- Settles O24: the channel settles, its confirmation is the last, and the wash is completed. -/
theorem lastArrivalCompletesTheWash : Obligations.LastArrivalCompletesTheWash := by
  intro v o s hs hst ho hstate hlevel hother hv hothers
  have hf : s.cycle.state.filtering = false := by rw [hst]; rfl
  have hbody := takeSwitch_last hst ho hstate hlevel hother hv hothers
  generalize hm : settledBy v (serviceSet v) ((s.valves.get v).setSwitch (serviceSet v) (.changeTo true)) s = m at hbody
  have hmf : m.cycle.state.filtering = false := by rw [← hm]; exact hf
  rw [← completeWash_setLink] at hbody
  obtain ⟨t, he, hw⟩ := completes_washCompleted (c := .limitSwitchChange v (serviceSet v) true) hs rfl hmf hbody hf
  have hframe := washCompleted_frame hw
  have hw' : t = _ := hw
  subst hm
  have hvalves := congrArg State.valves hw'
  refine ⟨t, he, congrArg State.cycle hw', congrArg State.arb hw', congrArg State.scan hw', congrArg State.link hw',
    ?_, ?_, ?_⟩
  · rw [hvalves]; exact congrArg Valve.state ((Valves.get_set _ _ _ _).trans (if_pos rfl))
  · intro other hne
    rw [hvalves]; exact (Valves.get_set _ _ _ _).trans (if_neg hne)
  · rw [hvalves]; exact hframe

end Sys2Proof.Machine
end

section
/-! SUPPORT. A REQUEST that is taken, from its frame to its ANSWER (R130, R144, R145), and the four requests that the
cycle controller carries out (R5, R12, R18, R25, R26). -/

namespace Sys2Proof.Machine

/-! ### From the frame to the request -/

theorem reachesJudgement_iff {r : RequestRow} {s : State} :
    reachesJudgement r s = true ↔
      s.supplyOk = true ∧ r.target = s.load.station ∧ s.cycle.state ≠ .starting ∧ s.link.answers.length < 4 := by
  simp [reachesJudgement, and_assoc]

@[simp] theorem Link.afterArrival_answers (l : Link) : l.afterArrival.answers = l.answers := by
  unfold Link.afterArrival; split <;> rfl

/-- The code of a REQUEST stands in bits 4-0 of byte 0, whatever bits 7-5 are (R169). -/
theorem byteAt_requestCode (high : BitVec 3) {code : Nat} (hc : code < 32) (arg : Byte) :
    byteAt [byte (high.toNat * 32 + code), arg] 0 % 32 = code := by
  have hh : high.toNat < 8 := high.isLt
  show (BitVec.ofNat 8 (high.toNat * 32 + code)).toNat % 32 = code
  rw [BitVec.toNat_ofNat]; omega

/-- A REQUEST frame to this station reaches the handler with its code and argument (R130, R144). -/
theorem receive_requestFrame {panel : BitVec 3} {target : BitVec 5} (high : BitVec 3) {code : Nat} (hc : code < 32)
    (arg : Byte) {s : State} (ht : target.toNat = s.load.station) :
    receive (requestFrame panel.toNat target.toNat high.toNat code arg) s =
      handleRequest panel.toNat code arg.toNat (s.setLink s.link.afterArrival) := by
  rw [requestFrame, receive_plainFrame (by decide)]
  have hstation : target.toNat = (s.setLink s.link.afterArrival).load.station := ht
  unfold judgeFrame receiveRequest
  rw [byteAt_requestCode high hc, if_neg (by decide), if_neg (by simp), if_neg (by decide), if_neg (by decide),
    if_neg (by decide), if_pos hstation]
  rfl

theorem RequestCode.ofCode_code (rc : RequestCode) : RequestCode.ofCode rc.code = some rc := by cases rc <;> rfl

theorem RequestCode.code_lt (rc : RequestCode) : rc.code < 32 := by cases rc <;> decide

/-- A request that the steps of R144 take is carried out. -/
theorem handleRequest_taken {panel arg : Nat} {rc : RequestCode} {s : State} (hst : s.cycle.state ≠ .starting)
    (hn : s.link.answers.length < 4) (hj : judgeRequest rc arg s = .taken) :
    handleRequest panel rc.code arg s = takeRequest panel rc arg s := by
  unfold handleRequest
  rw [if_neg hst, if_neg (Nat.not_le.2 hn), RequestCode.ofCode_code]; simp only [hj]

/-- The station as a request finds it: the link has learnt that a frame has arrived (R135). -/
def heard (s : State) : State := s.setLink s.link.afterArrival

/-- An ANSWER reads of the state the station number alone (R129, R145). -/
theorem answerFrame_congr {s u : State} (h : u.load = s.load) (panel code : Nat) (o : AnswerOutcome) (data : List Byte)
    (mark : Bool) : answerFrame panel code o data mark u = answerFrame panel code o data mark s := by
  unfold answerFrame; rw [h]

/-- A request that is taken, RESTART apart: what it carries out, and its ANSWER offered after it (R144 step 7, R145). -/
theorem receive_taken {panel : BitVec 3} {target : BitVec 5} (high : BitVec 3) {code : Nat} {arg : Byte} {s u : State}
    (rc : RequestCode) (hr : reachesJudgement ⟨panel.toNat, target.toNat, code, arg.toNat⟩ s = true)
    (hrc : rc ≠ .restart) (hj : judgeRequest rc arg.toNat (heard s) = .taken)
    (hu : carryOut rc (heard s) = u) (hload : u.load = s.load)
    (hdata : answerDataOf rc arg.toNat u = zeroData) :
    receive (requestFrame panel.toNat target.toNat high.toNat rc.code arg) s =
      u.setLink (u.link.offer (answerFrame panel.toNat rc.code .taken zeroData false s)) := by
  obtain ⟨-, ht, hst, hn⟩ := reachesJudgement_iff.1 hr
  rw [receive_requestFrame high rc.code_lt arg ht]
  have hh := handleRequest_taken (panel := panel.toNat) (s := heard s) hst
    (by simpa [heard] using hn) hj
  refine hh.trans ?_
  unfold takeRequest
  simp only [hrc, decide_false, Bool.false_and, Bool.false_eq_true, if_false, hu, hdata]
  unfold offerAnswer offer
  rw [answerFrame_congr hload]

/-! ### WASH_NOW and ABANDON_WASH -/

theorem judgeRequest_washNow {arg : Nat} {s : State} (hr : s.restricted = false) (hs : s.cycle.state.filtering = true) :
    judgeRequest .washNow arg s = .taken := by
  simp [judgeRequest, hr, takenInState, hs, argumentTaken]

theorem judgeRequest_abandonWash {arg : Nat} {s : State}
    (hs : s.cycle.state = .waiting ∨ s.cycle.state = .contest ∨ s.cycle.state.washStep = true) :
    judgeRequest .abandonWash arg s = .taken := by
  have : takenInState .abandonWash s = true := by
    simp only [takenInState, Bool.or_eq_true, decide_eq_true_eq]; exact or_assoc.2 hs
  simp [judgeRequest, this, argumentTaken]

/-- WASH_NOW in IN_SERVICE raises OPERATOR (R5). -/
theorem operatorWash_inService {s : State} (h : s.cycle.state = .inService) :
    operatorWash s =
      s.setCycle (cycleIn .waiting { s.cycle with due := .operator, waitMinutes := 0, waitSeconds := 0 }) := by
  unfold operatorWash; rw [h]; unfold raiseDue
  exact enterState_quiet (fun _ => rfl) (fun _ => rfl)

theorem operatorWash_upgrade {s : State} (h : s.cycle.state = .waiting ∨ s.cycle.state = .contest) :
    operatorWash s = s.setCycle { s.cycle with due := .operator } := by
  unfold operatorWash; rcases h with h | h <;> rw [h]

/-- A cycle without a due reason and without a wait (R7, R12, R25). -/
def Cycle.undue (c : Cycle) : Cycle := { c with due := .none, waitMinutes := 0, waitSeconds := 0 }

/-- ABANDON_WASH in WAITING ends the wait, and the back-off with it (R12, R98). -/
theorem abandonWash_waiting {s : State} (h : s.cycle.state = .waiting) :
    abandonWash s = { s with cycle := cycleIn .inService s.cycle.undue, arb := { s.arb with backoff := 0 } } := by
  have hc : (clearDue s).cycle.state = .waiting := h
  unfold abandonWash; simp only [h, CycleState.washStep, reduceCtorEq, decide_false, Bool.false_and,
    Bool.false_eq_true, if_false]
  rw [enterState_eq, if_neg (by simp [CycleState.filtering]), if_pos (by simp [hc])]; rfl

/-- ABANDON_WASH in a contest withdraws its INTENT (R12, R97). -/
theorem abandonWash_contest {s : State} (h : s.cycle.state = .contest) (hi : s.arb.claim.isIntent = true) :
    abandonWash s =
      { s with
        cycle := cycleIn .inService s.cycle.undue
        arb := { s.arb with claim := .none, windowTimer := 0 }
        link := withdrawnLink s s.link } := by
  unfold abandonWash; simp only [h, hi, CycleState.washStep, decide_true, Bool.and_self,
    Bool.false_eq_true, if_false, if_true]
  exact enterState_quiet (fun _ => rfl) (fun hw => by cases h.symm.trans hw)

theorem abandonWash_washStep {s : State} (h : s.cycle.state.washStep = true) :
    abandonWash s = cutShort .abandoned s := by
  unfold abandonWash; rw [if_pos h]

/-! ### ISOLATE and RETURN -/

theorem judgeRequest_isolate {arg : Nat} {s : State} (hs : s.cycle.state = .inService ∨ s.cycle.state = .waiting) :
    judgeRequest .isolate arg s = .taken := by
  have : takenInState .isolate s = true := by simpa [takenInState] using hs
  simp [judgeRequest, this, argumentTaken]

theorem judgeRequest_return {arg : Nat} {s : State} (hs : s.cycle.state = .isolated) :
    judgeRequest .returnToService arg s = .taken := by
  simp [judgeRequest, takenInState, hs, argumentTaken]

/-- A state entered from a filtering state with the ISOLATED set commanded: no due reason, dosing held, no back-off out
of WAITING (R25, R98, R116). -/
def isolatedIn (new : CycleState) (s : State) : State :=
  { s with
    cycle := cycleIn new { s.cycle.undue with confirmed := s.valves.confirmations allClosedSet }
    valves := s.valves.command allClosedSet
    arb := { s.arb with backoff := if s.cycle.state = .waiting then 0 else s.arb.backoff }
    dose := doseHeld s.dose }

theorem isolatedIn_settled (s : State) : onSettled (isolatedIn .isolating s) = isolatedIn .isolated s :=
  enterState_of_not_filtering (s := isolatedIn .isolating s) rfl .isolated

/-- ISOLATE with both waste valves at their closed limits; where the ISOLATED set stands the station is ISOLATED at that
event (R2, R25). -/
theorem isolate_eq {s : State} (hf : s.cycle.state.filtering = true) (hb : noBothAsserted s = true)
    (hout : s.valves.washOut.atLimit .closed = true) (hrinse : s.valves.rinse.atLimit .closed = true) :
    isolate s = isolatedIn (if standsAt allClosedSet s then .isolated else .isolating) s := by
  have henter : commandedTo allClosedSet (enterState .isolating (clearDue s)) = isolatedIn .isolating s := by
    have hc : (clearDue s).cycle.state = s.cycle.state := rfl
    rw [enterState_eq, if_pos (by rw [hc, hf]; rfl), hc]
    unfold isolatedIn
    by_cases hw : s.cycle.state = .waiting
    · rw [if_pos (by simp [hw]), if_pos hw]; rfl
    · rw [if_neg (by simp [hw]), if_neg hw]; rfl
  have hcmd : commandSet allClosedSet (enterState .isolating (clearDue s)) =
      commandedTo allClosedSet (enterState .isolating (clearDue s)) := by
    refine commandSet_of_closed (by simp) fun v hv _ => ⟨rfl, ?_⟩
    rw [enterState_valves]
    cases v <;> first | exact hout | exact hrinse | cases hv
  have hsame : standsAt allClosedSet (clearDue s) = standsAt allClosedSet s := rfl
  unfold isolate enterIsolating
  rw [enterCommanding_eq (s := clearDue s) hb hcmd, henter, isolatedIn_settled, hsame]
  exact (apply_ite (isolatedIn · s) _ _ _).symm

/-- RECOVERING entered from `s` with the SERVICE set commanded (R24). -/
def inRecovering (s : State) : State := commandedTo serviceSet (s.setCycle (cycleIn .recovering s.cycle))

/-- RETURN: RECOVERING is entered, and is over at once where the SERVICE set stands (R2, R24, R26). -/
theorem enterRecovering_eq {s : State} (hs : s.cycle.state.filtering = false) (hb : noBothAsserted s = true)
    (hclosed : closedStand s = true) :
    enterRecovering s = if standsAt serviceSet s then recoveringSettled (inRecovering s) else inRecovering s := by
  have hcmd : commandSet serviceSet (enterState .recovering s) = inRecovering s := by
    rw [enterState_of_not_filtering hs]
    refine commandSet_of_closed (nofun : CycleState.recovering ≠ .lockedOut) fun v hv hstate => ⟨?_, ?_⟩
    · cases v <;> first | rfl | cases hv
    · have := valves_all_iff.1 hclosed v
      simpa [show (s.valves.get v).state = .closed from hstate] using this
  unfold enterRecovering
  rw [enterCommanding_eq hb (by rw [hcmd, enterState_of_not_filtering hs]; rfl), enterState_of_not_filtering hs]
  rfl

/-- RETURN where the SERVICE set stands: IN_SERVICE or WAITING with the set commanded, and a HOLD released (R24,
R104). -/
theorem recoveringSettled_eq (s : State) :
    recoveringSettled (inRecovering s) =
      { s with
        cycle := cycleIn (if s.cycle.due = .none then .inService else .waiting)
          { s.cycle with confirmed := s.valves.confirmations serviceSet }
        valves := s.valves.command serviceSet
        arb := if s.arb.claim.isHold = true then { s.arb with claim := .none, refreshTimer := 0 } else s.arb
        link := if s.arb.claim.isHold = true then releasedLink s s.link else s.link } := by
  have henter : ∀ new, enterState new (inRecovering s) = commandedTo serviceSet (s.setCycle (cycleIn new s.cycle)) :=
    enterState_of_not_filtering (s := inRecovering s) rfl
  have hhold : ∀ new,
      (commandedTo serviceSet (s.setCycle (cycleIn new s.cycle))).arb.claim.isHold = s.arb.claim.isHold := fun _ => rfl
  unfold recoveringSettled; simp only [henter, hhold]
  split <;> rfl

/-! ### The requests -/

/-- A request taken that moves the cycle to a state other than STARTING completes with its ANSWER offered before the
STATUS of that change. -/
theorem completes_request {panel : BitVec 3} {target : BitVec 5} (high : BitVec 3) {arg : Byte} {c : Instr}
    {s u : State} (rc : RequestCode) {P : State → Prop}
    (hr : reachesJudgement ⟨panel.toNat, target.toNat, 0, arg.toNat⟩ s = true)
    (he : exec c s = event false (receive (requestFrame panel.toNat target.toNat high.toNat rc.code arg)) s)
    (hrc : rc ≠ .restart) (hj : judgeRequest rc arg.toNat (heard s) = .taken)
    (hu : carryOut rc (heard s) = u) (hload : u.load = s.load)
    (hdata : answerDataOf rc arg.toNat u = zeroData)
    (hst : u.cycle.state ≠ .starting) (hch : u.cycle.state ≠ s.cycle.state)
    (hP : ∀ t, t = u.setLink
        ((u.link.offer (answerFrame panel.toNat rc.code .taken zeroData false s)).offer (statusFrame t)).take → P t) :
    completes c s P :=
  completes_change (reachesJudgement_iff.1 hr).1 he (receive_taken high rc hr hrc hj hu hload hdata) hst hch hP

/-- Settles O51: each request by the state it is taken in. -/
theorem cycleRequestsAreCarriedOut : Obligations.CycleRequestsAreCarriedOut := by
  intro panel target high arg s hr answer l base
  have hs := (reachesJudgement_iff.1 hr).1
  refine ⟨fun hres hst => ?_, fun hres hst => ?_, fun hst => ?_, fun hst hi => ?_, fun hw hb hat => ?_,
    fun hw hat => ?_, fun hst hb _ hout hrinse => ?_, fun hst hb hclosed => ⟨fun hat => ?_, fun hat => ?_⟩⟩
  · have hf : s.cycle.state.filtering = true := by rw [hst]; rfl
    exact completes_request high .washNow hr rfl nofun (judgeRequest_washNow hres hf) (operatorWash_inService hst)
      rfl rfl nofun (by rw [hst]; exact nofun) fun t ht => ht
  · have hf : s.cycle.state.filtering = true := by rcases hst with h | h <;> rw [h] <;> rfl
    exact event_quiet_of_body hs (receive_taken high .washNow hr nofun (judgeRequest_washNow hres hf)
      (operatorWash_upgrade (s := heard s) hst) rfl rfl) rfl
  · exact completes_request high .abandonWash hr rfl nofun (judgeRequest_abandonWash (.inl hst))
      (abandonWash_waiting (s := heard s) hst) rfl rfl nofun (by rw [hst]; exact nofun) fun t ht => ht
  · exact completes_request high .abandonWash hr rfl nofun (judgeRequest_abandonWash (.inr (.inl hst)))
      (abandonWash_contest (s := heard s) hst hi) rfl rfl nofun (by rw [hst]; exact nofun) fun t ht => ht
  · have hu := (abandonWash_washStep (s := heard s) hw).trans
      (cutShort_cases (s := heard s) (CycleState.washStep_not_filtering hw) hb _)
    have hsame : standsAt serviceSet (heard s) = false := hat
    rw [hsame] at hu
    exact completes_request high .abandonWash hr rfl nofun (judgeRequest_abandonWash (.inr (.inr hw))) hu rfl rfl nofun
      (fun h => by rw [← h] at hw; cases hw) fun t ht => ht
  · have hf : s.cycle.state.filtering = false := CycleState.washStep_not_filtering hw
    have hu := (abandonWash_washStep (s := heard s) hw).trans
      (cutShort_cases (s := heard s) hf (noBothAsserted_of_standsAt hat) _)
    have hsame : standsAt serviceSet (heard s) = true := hat
    rw [hsame, if_pos rfl] at hu
    have hbody := receive_taken high .abandonWash hr nofun (judgeRequest_abandonWash (.inr (.inr hw))) hu
      (keeps_completeWash _ _).load rfl
    rw [completeWash_link] at hbody
    exact completes_washCompletedAtOnce (m := cutShortAs .abandoned (heard s)) hs rfl hbody hf
  · have hf : s.cycle.state.filtering = true := by rcases hst with h | h <;> rw [h] <;> rfl
    have hne : ∀ x : CycleState, x = .starting ∨ x.filtering = true →
        (if standsAt allClosedSet s then CycleState.isolated else .isolating) ≠ x := by
      rintro x hx rfl; split at hx <;> rcases hx with hx | hx <;> cases hx
    exact completes_request high .isolate hr rfl nofun (judgeRequest_isolate hst)
      (isolate_eq (s := heard s) hf hb hout hrinse) rfl rfl (hne _ (.inl rfl)) (hne _ (.inr hf)) fun t ht => ht
  · have hf : s.cycle.state.filtering = false := by rw [hst]; rfl
    have hu := enterRecovering_eq (s := heard s) hf hb hclosed
    have hsame : standsAt serviceSet (heard s) = false := hat
    rw [hsame] at hu
    exact completes_request high .returnToService hr rfl nofun (judgeRequest_return hst) hu rfl rfl nofun
      (by rw [hst]; exact nofun) fun t ht => ht
  · have hf : s.cycle.state.filtering = false := by rw [hst]; rfl
    have hu := enterRecovering_eq (s := heard s) hf hb hclosed
    have hsame : standsAt serviceSet (heard s) = true := hat
    rw [hsame, if_pos rfl, recoveringSettled_eq] at hu
    have hne : ∀ x : CycleState, x.filtering = false →
        (if s.cycle.due = .none then CycleState.inService else .waiting) ≠ x := by
      rintro x hx rfl; split at hx <;> cases hx
    exact completes_request high .returnToService hr rfl nofun (judgeRequest_return hst) hu rfl rfl (hne _ rfl)
      (hne _ hf) fun t ht => ht

end Sys2Proof.Machine
end

section
/-! SUPPORT. What a second tick leaves of the scanner (R39 to R50) and of the group reading (R110, R111), and the rows
that name a second tick. -/

namespace Sys2Proof.Machine

/-! ### The blocks after the scanner leave its record -/

@[simp] theorem enterState_scan (new : CycleState) (s : State) : (enterState new s).scan = s.scan := by
  rw [enterState_eq]; rfl

/-- What the due conditions can do: nothing, raise a due reason in IN_SERVICE, or replace the due reason (R3, R4). -/
theorem evaluateDue_cases (s : State) :
    evaluateDue s = s ∨ (∃ r, evaluateDue s = raiseDue r s)
      ∨ ∃ r, evaluateDue s = s.setCycle { s.cycle with due := r } := by
  unfold evaluateDue; simp only
  split
  · split
    · exact .inl rfl
    · exact .inr (.inl ⟨_, rfl⟩)
  · split
    · exact .inr (.inr ⟨_, rfl⟩)
    · exact .inl rfl
  · split
    · exact .inr (.inr ⟨_, rfl⟩)
    · exact .inl rfl
  · exact .inl rfl

@[simp] theorem evaluateDue_scan (s : State) : (evaluateDue s).scan = s.scan := by
  rcases evaluateDue_cases s with h | ⟨r, h⟩ | ⟨r, h⟩ <;> rw [h]
  · exact enterState_scan _ _
  · rfl

@[simp] theorem cycleSecond_scan (s : State) : (cycleSecond s).scan = s.scan := evaluateDue_scan _

@[simp] theorem tryContest_scan (s : State) : (tryContest s).scan = s.scan := by
  unfold tryContest; split
  · exact enterState_scan _ _
  · rfl

theorem sampleOwnChannels_scan (s : State) : (sampleOwnChannels s).scan = s.scan := by
  unfold sampleOwnChannels; split <;> rfl

theorem countReadingPeriod_scan (s : State) : (countReadingPeriod s).scan = s.scan := by
  unfold countReadingPeriod
  split
  · split <;> rfl
  · rfl

@[simp] theorem dosingSecond_scan (s : State) : (dosingSecond s).scan = s.scan := by
  rw [dosingSecond, decideDosing, State.setDose_scan, countReadingPeriod_scan, sampleOwnChannels_scan]

@[simp] theorem finish_scan (c : CycleState) (b : Bool) (s : State) : (finish c b s).scan = s.scan := by
  rw [finish_eq]; rfl

/-- A second tick leaves of the scanner what the scanner's own work leaves. -/
theorem secondTick_scan (s : State) :
    (finish s.cycle.state true (secondWork s)).scan = (scannerSecond s).scan := by
  rw [finish_scan, secondWork, dosingSecond_scan, tryContest_scan, cycleSecond_scan]

/-! ### The loading, the capture and the hold timers -/

/-- The scanner once the capture delay has counted and the loading is pushed or captured, before the hold timers (R45,
R46, R47). -/
def State.loaded (s : State) : Scanner :=
  if s.computable then (s.scan.countCapture s.cycle.state.filtering).captureOrPush s.dc s.cfg.dlim
  else s.scan.countCapture s.cycle.state.filtering

/-- A capture delay count changes the count alone (R45). -/
theorem Scanner.countCapture_eq (x : Scanner) (filtering : Bool) :
    x.countCapture filtering =
      { x with
        captureDelay := if x.captureArmed && filtering then incTo 6000 x.captureDelay else x.captureDelay } := by
  unfold Scanner.countCapture; split <;> rfl

/-- The loading hold timer that a smoothed loading index gives (R48). -/
def loadingTimerOf (ls : Option Nat) (filtering : Bool) (cfg : WorkingConfig) (timer : Nat) : Nat :=
  match ls with
  | none => 0
  | some ls => if filtering && cfg.loadingTrigger ≤ ls then incTo cfg.loadingHold timer else 0

theorem Scanner.updateLoadingTimer_eq (x : Scanner) (filtering : Bool) (cfg : WorkingConfig) :
    x.updateLoadingTimer filtering cfg =
      { x with loadingTimer := loadingTimerOf x.ls filtering cfg x.loadingTimer } := by
  unfold Scanner.updateLoadingTimer loadingTimerOf
  cases x.ls with
  | none => rfl
  | some ls => simp only; split <;> rfl

theorem Scanner.updateBreakthroughTimer_eq (x : Scanner) (filtering : Bool) (cfg : WorkingConfig) :
    x.updateBreakthroughTimer filtering cfg =
      { x with
        breakthroughTimer :=
          if filtering && x.breaksThrough cfg then incTo cfg.breakthroughHold x.breakthroughTimer else 0 } := by
  unfold Scanner.updateBreakthroughTimer; split <;> rfl

/-- The scanner's work at a second tick: the loading, then both hold timers (R47). -/
theorem scannerSecond_scan (s : State) :
    (scannerSecond s).scan =
      { s.loaded with
        loadingTimer := loadingTimerOf s.loaded.ls s.cycle.state.filtering s.cfg s.loaded.loadingTimer
        breakthroughTimer :=
          if s.cycle.state.filtering && s.loaded.breaksThrough s.cfg then
            incTo s.cfg.breakthroughHold s.loaded.breakthroughTimer
          else 0 } := by
  have h : (scannerSecond s).scan =
      (s.loaded.updateLoadingTimer s.cycle.state.filtering s.cfg).updateBreakthroughTimer s.cycle.state.filtering
        s.cfg := rfl
  rw [h, Scanner.updateLoadingTimer_eq, Scanner.updateBreakthroughTimer_eq]; rfl

/-- The capture takes the place of the push, and either leaves the records and the timers (R41, R42, R46). -/
theorem Scanner.captureOrPush_eq (x : Scanner) (dc dlim : Nat) :
    x.captureOrPush dc dlim =
      let capture := x.captureArmed && x.captureDelay = 6000
      { x with
        ring := if capture then [] else pushRing x.ring (loadingValue dc x.d0 dlim)
        d0 := if capture then min dc (dlim - 50) else x.d0
        captureArmed := x.captureArmed && !capture
        captureDelay := if capture then 0 else x.captureDelay } := by
  unfold Scanner.captureOrPush
  cases h : (x.captureArmed && decide (x.captureDelay = 6000)) <;> simp

/-- The loading leaves the records, Qmin_abs, the scan count and the timers. -/
theorem State.loaded_frame (s : State) :
    s.loaded.channels = s.scan.channels ∧ s.loaded.qminAbs = s.scan.qminAbs ∧ s.loaded.scanCount = s.scan.scanCount
      ∧ s.loaded.loadingTimer = s.scan.loadingTimer ∧ s.loaded.breakthroughTimer = s.scan.breakthroughTimer := by
  unfold State.loaded
  simp only [Scanner.captureOrPush_eq, Scanner.countCapture_eq]
  split <;> exact ⟨rfl, rfl, rfl, rfl, rfl⟩

/-- Settles O14: by whether the loading is computable, and whether the capture is due. -/
theorem secondTickComputesTheLoadingOrCaptures : Obligations.SecondTickComputesTheLoadingOrCaptures := by
  intro s hs dc computable delay l
  refine completes_event hs rfl ?_
  obtain ⟨hch, hq, hn, -, -⟩ := s.loaded_frame
  rw [secondTick_scan, scannerSecond_scan]
  have hcount : s.scan.countCapture s.cycle.state.filtering = { s.scan with captureDelay := delay } :=
    Scanner.countCapture_eq _ _
  have hloaded : s.loaded =
      if computable then ({ s.scan with captureDelay := delay } : Scanner).captureOrPush dc s.cfg.dlim
      else { s.scan with captureDelay := delay } := by rw [← hcount]; rfl
  refine ⟨fun hc => ?_, fun hc harm hdelay => ?_, fun hc hcap => ?_, hch, hq, hn⟩
  · rw [hloaded, hc]; exact ⟨rfl, rfl, rfl, rfl⟩
  · rw [hloaded, hc, if_pos rfl, Scanner.captureOrPush_eq]
    simp [harm, hdelay]
  · rw [hloaded, hc, if_pos rfl, Scanner.captureOrPush_eq]
    simp only [hcap]
    exact ⟨rfl, rfl, Bool.and_true _, rfl⟩

/-- Settles O15: each timer by its own equation; neither changes what the other reads. -/
theorem secondTickUpdatesTheHoldTimers : Obligations.SecondTickUpdatesTheHoldTimers := by
  intro s hs
  refine completes_event hs rfl ?_
  obtain ⟨hch, -, -, hload, hbreak⟩ := s.loaded_frame
  rw [secondTick_scan, scannerSecond_scan]
  constructor
  · show loadingTimerOf s.loaded.ls _ _ _ = _
    rw [hload]; rfl
  · simp only [hbreak, Scanner.breaksThrough, hch, Bool.and_assoc]

/-! ### The rows that name a second tick -/

/-- A row that names a second tick is that second tick where what it names comes about (log 4), so that it completes in
what SECOND_TICK leaves. -/
theorem completes_secondAt {c : Instr} {happens : Bool} {s : State} {P : State → Prop}
    (he : exec c s = secondAt happens s) (hh : happens = true) (h : completes .secondTick s P) :
    exec c s = exec .secondTick s ∧ completes c s P := by
  have heq : exec c s = exec .secondTick s := by rw [he, hh]; rfl
  obtain ⟨t, ht, hP⟩ := h
  exact ⟨heq, t, heq.trans ht, hP⟩

/-- What holds after a completed command may be weakened. -/
theorem completes_imp {c : Instr} {s : State} {P Q : State → Prop} (h : completes c s P) (hPQ : ∀ t, P t → Q t) :
    completes c s Q := by
  obtain ⟨t, ht, hP⟩ := h
  exact ⟨t, ht, hPQ t hP⟩

/-- A second tick completes in a state with the scanner that the scanner's own work leaves. -/
theorem completes_secondTick_scan {s : State} (hs : s.supplyOk = true) :
    completes .secondTick s fun t => t.scan = (scannerSecond s).scan :=
  completes_event hs rfl (secondTick_scan s)

/-! ### The group reading at a second tick (R110, R111) -/

theorem enterState_dose {new : CycleState} (h : new.filtering = true) (s : State) :
    (enterState new s).dose = s.dose := by
  rw [enterState_eq]; simp [h]

theorem evaluateDue_dose (s : State) : (evaluateDue s).dose = s.dose := by
  rcases evaluateDue_cases s with h | ⟨r, h⟩ | ⟨r, h⟩ <;> rw [h]
  · exact enterState_dose (new := .waiting) rfl _
  · rfl

@[simp] theorem cycleSecond_dose (s : State) : (cycleSecond s).dose = s.dose := evaluateDue_dose _

theorem evaluateDue_link (s : State) : (evaluateDue s).link = s.link := by
  rcases evaluateDue_cases s with h | ⟨r, h⟩ | ⟨r, h⟩ <;> rw [h]
  · exact enterState_link _ _
  · rfl

@[simp] theorem cycleSecond_link (s : State) : (cycleSecond s).link = s.link := evaluateDue_link _

@[simp] theorem tryContest_dose (s : State) : (tryContest s).dose = s.dose := by
  unfold tryContest; split
  · exact enterState_dose (new := .contest) rfl _
  · rfl

@[simp] theorem tryContest_link_mode (s : State) : (tryContest s).link.mode = s.link.mode := by
  unfold tryContest; split
  · unfold enterContest; rw [enterState_link]; exact Link.offer_mode _ _
  · rfl

theorem evaluateDue_not_starting {s : State} (h : s.cycle.state ≠ .starting) :
    (evaluateDue s).cycle.state ≠ .starting := by
  rcases evaluateDue_cases s with he | ⟨r, he⟩ | ⟨r, he⟩ <;> rw [he]
  · exact h
  · rw [raiseDue, enterState_cycle]; exact nofun
  · exact h

/-- The work of a second tick leads to no STARTING (R47, R92). -/
theorem cycleSecond_not_starting {s : State} (h : s.cycle.state ≠ .starting) :
    (cycleSecond s).cycle.state ≠ .starting := by
  cases hf : s.cycle.state.filtering with
  | false => rw [cycleSecond_not_filtering hf]; exact h
  | true =>
    by_cases hw : s.cycle.state = .waiting
    · rw [cycleSecond_of_waiting hw]
      refine evaluateDue_not_starting ?_
      rw [State.setCycle_cycle, Cycle.countWait_state]; exact h
    · rw [cycleSecond_of_filtering hf hw]
      exact evaluateDue_not_starting (s := s.setCycle s.cycle.countRun) h

theorem tryContest_not_starting {s : State} (h : s.cycle.state ≠ .starting) :
    (tryContest s).cycle.state ≠ .starting := by
  rcases tryContest_cycle s with ht | ⟨-, ht⟩ <;> rw [ht]
  · exact h
  · exact nofun

/-- The frame that `readingFrame` builds reads of the state the record and the straps (R111, R129). -/
theorem readingFrame_congr {s u : State} (hl : u.load = s.load) (hd : readingData u.dose = readingData s.dose) :
    readingFrame u = readingFrame s := by
  unfold readingFrame; rw [hl, hd]

/-- A mode decision leaves the record, the reading period and the counter of duplicate readings (R115 to R121). -/
theorem Dosing.recompute_record (d : Dosing) (mode : DosingMode) (dose interval width : Nat) :
    (d.recompute mode dose interval width).source = d.source
      ∧ (d.recompute mode dose interval width).periodCount = d.periodCount
      ∧ readingData (d.recompute mode dose interval width) = readingData d
      ∧ (d.recompute mode dose interval width).duplicateReadings = d.duplicateReadings := by
  have hcount : ∀ e : Dosing, (e.countAfterRecompute width).source = e.source
      ∧ (e.countAfterRecompute width).periodCount = e.periodCount
      ∧ readingData (e.countAfterRecompute width) = readingData e
      ∧ (e.countAfterRecompute width).duplicateReadings = e.duplicateReadings := by
    intro e
    unfold Dosing.countAfterRecompute Dosing.countPacer; simp only
    split
    · split
      · split <;> exact ⟨rfl, rfl, rfl, rfl⟩
      · split <;> exact ⟨rfl, rfl, rfl, rfl⟩
    · exact ⟨rfl, rfl, rfl, rfl⟩
  unfold Dosing.recompute
  cases mode with
  | held | fault => exact ⟨rfl, rfl, rfl, rfl⟩
  | base | trimmed =>
    simp only
    split
    · exact ⟨rfl, rfl, rfl, rfl⟩
    · split
      · exact hcount (Dosing.beginStroke _ _)
      · exact hcount _

theorem decideDosing_record (s : State) :
    (decideDosing s).dose.source = s.dose.source ∧ (decideDosing s).dose.periodCount = s.dose.periodCount
      ∧ readingFrame (decideDosing s) = readingFrame s
      ∧ (decideDosing s).dose.duplicateReadings = s.dose.duplicateReadings := by
  obtain ⟨hsource, hcount, hdata, hdup⟩ := s.dose.recompute_record s.decidedMode
    (doseOf s.cfg s.decidedMode s.dose.readingF)
    (intervalOf s.cfg s.scan.channels.flow.value (doseOf s.cfg s.decidedMode s.dose.readingF)) s.cfg.strokeWidth
  exact ⟨hsource, hcount, readingFrame_congr rfl hdata, hdup⟩

/-- The reading period of a sample holder is over outside STARTING: the count is set to 0 and a READING offered
(R111). -/
theorem countReadingPeriod_over {s : State} (hh : s.sampleHolder = true) (hst : s.cycle.state ≠ .starting)
    (hp : 4 ≤ s.dose.periodCount) :
    countReadingPeriod s = offerReading (s.setDose { s.dose with periodCount := 0 }) := by
  unfold countReadingPeriod
  rw [if_pos (by simp [hh, hst]), if_pos hp]

/-- In a sample holder outside STARTING whose reading period is over, the second tick sets the count to 0 and offers a
READING of the own channels (R110, R111). -/
theorem dosingSecond_reading {s : State} (hh : s.sampleHolder = true) (hst : s.cycle.state ≠ .starting)
    (hp : 4 ≤ s.dose.periodCount) :
    (dosingSecond s).dose.periodCount = 0 ∧ (dosingSecond s).dose.source = some s.load.station
      ∧ (dosingSecond s).link = s.link.offer (readingFrame (dosingSecond s)) := by
  have hown : sampleOwnChannels s =
      s.setDose (s.dose.takeOwnReading s.load.station s.scan.channels.chlorine s.scan.channels.ph) := by
    unfold sampleOwnChannels; rw [if_pos hh]
  obtain ⟨hsource, hcount, hframe, -⟩ := decideDosing_record (countReadingPeriod (sampleOwnChannels s))
  have hover := countReadingPeriod_over (s := sampleOwnChannels s) (by rw [hown]; exact hh)
    (by rw [sampleOwnChannels_cycle]; exact hst) (by rw [hown]; exact hp)
  refine ⟨?_, ?_, ?_⟩
  · rw [dosingSecond, hcount, hover, hown]; rfl
  · rw [dosingSecond, hsource, hover, hown]; rfl
  · rw [dosingSecond, hframe, decideDosing, State.setDose_link, hover, hown]; rfl

/-- A waiting READING waits on or is taken into transmission (R134). -/
theorem Link.take_of_reading {l : Link} {f : TxFrame} (hr : l.reading = some f) (hm : l.mode ≠ .off) :
    l.take.reading = some f ∨ l.take.inTx = some f := by
  cases hi : l.inTx with
  | some g => left; rw [Link.take_busy hi]; exact hr
  | none =>
    rw [Link.take_free hi hm]
    cases hc : l.claim with
    | some g => left; simp [Link.takeWaiting, hc, hr]
    | none => right; simp [Link.takeWaiting, hc, hr]

/-- A READING offered before the STATUS of a second tick waits or is in transmission after it (R133, R134). -/
theorem finish_reading {c : CycleState} {b : Bool} {s : State} {l : Link} {f : TxFrame} (hl : s.link = l.offer f)
    (hk : f.kind = .reading) (hm : l.mode ≠ .off) :
    (finish c b s).link.reading = some f ∨ (finish c b s).link.inTx = some f := by
  have hmode : s.link.mode ≠ .off := by rw [hl, Link.offer_mode]; exact hm
  have hr : s.link.reading = some f := by rw [hl, Link.offer_reading hm hk]
  rw [finish_eq, State.setLink_link]
  split
  · refine Link.take_of_reading ?_ (by rw [Link.offer_mode]; exact hmode)
    rw [Link.offer_status hmode rfl]; exact hr
  · exact Link.take_of_reading hr hmode

/-- Settles O16: the two holds from the scanner's work, the wait from O13, the READING from the dosing unit's. -/
theorem namedSecondTicksAreSecondTicks : Obligations.NamedSecondTicksAreSecondTicks := by
  intro s hs
  refine ⟨fun h => completes_secondAt rfl h ?_, fun h => completes_secondAt rfl h ?_, fun hst hw => ?_,
    fun hh hst hp => ?_⟩
  · refine completes_imp (completes_secondTick_scan hs) fun t ht => ?_
    simp only [loadingHoldReaches, State.loadingPresented, Bool.and_eq_true, decide_eq_true_eq] at h
    rw [ht]; exact h.2
  · refine completes_imp (completes_secondTick_scan hs) fun t ht => ?_
    simp only [breakthroughHoldReaches, State.breakthroughPresented, Bool.and_eq_true, decide_eq_true_eq] at h
    rw [ht]; exact h.2
  · refine completes_secondAt rfl (by simp [waitMinuteReaches, hst, hw]) ?_
    refine completes_imp (secondTickCountsAndRaisesTheDueReason s hs) fun t ht => ?_
    obtain ⟨-, -, -, -, hwaiting, -⟩ := ht
    obtain ⟨-, -, hsec, hmin⟩ := hwaiting hst
    rw [if_neg (Nat.not_lt.2 hw)] at hsec hmin
    exact ⟨hsec, hmin⟩
  · refine completes_secondAt rfl (by simp [readingPeriodReaches, hst, hh, hp]) (completes_event hs rfl ?_)
    have hkeep : Keeps s (tryContest (cycleSecond (scannerSecond s))) :=
      ((keeps_scannerSecond s).trans (keeps_cycleSecond _)).trans (keeps_tryContest _)
    obtain ⟨hcount, hsource, hlink⟩ := dosingSecond_reading (s := tryContest (cycleSecond (scannerSecond s)))
      (by unfold State.sampleHolder State.cfg; rw [hkeep.load]; exact hh)
      (tryContest_not_starting (cycleSecond_not_starting (s := scannerSecond s) hst))
      (by rw [tryContest_dose, cycleSecond_dose]; exact hp)
    have hframe : readingFrame (finish s.cycle.state true (secondWork s)) = readingFrame (secondWork s) := by
      rw [finish_eq]; rfl
    refine ⟨?_, ?_, fun hm => ?_⟩
    · rw [finish_eq]; exact hcount
    · rw [finish_eq, ← hkeep.load]; exact hsource
    · rw [hframe]
      refine finish_reading hlink rfl ?_
      rw [tryContest_link_mode, cycleSecond_link]; exact hm

end Sys2Proof.Machine
end

section
/-! SUPPORT. What a conversion does: its channel's record by the tables of R36 and R37, the breakthrough hold (R50) and
the clear-hold timer (R16). -/

namespace Sys2Proof.Machine

theorem goodCount_iff (c : Nat) : goodCount c = true ↔ 720 ≤ c ∧ c ≤ 4080 := by simp [goodCount]

/-- A good conversion publishes its value and moves the condition by the table of R37. -/
theorem ChannelRecord.convert_good {c : Nat} (h : 720 ≤ c ∧ c ≤ 4080) (r : ChannelRecord) (span : Nat) :
    (r.convert span c).value = Machine.convert span c
      ∧ ((r.convert span c).condition, (r.convert span c).run) =
        (match r.condition with
          | .unseen | .normal | .doubtful => (Condition.normal, 0)
          | .faulted => (.clearing, 1)
          | .clearing => if r.run < 2 then (.clearing, r.run + 1) else (.normal, 0)) := by
  unfold ChannelRecord.convert ChannelRecord.good
  rw [if_pos ((goodCount_iff c).2 h)]
  cases r.condition with
  | unseen | normal | doubtful | faulted => exact ⟨rfl, rfl⟩
  | clearing =>
    simp only
    split <;> exact ⟨rfl, rfl⟩

/-- A bad conversion leaves the value and moves the condition by the table of R36. -/
theorem ChannelRecord.convert_bad {c : Nat} (h : ¬ (720 ≤ c ∧ c ≤ 4080)) (r : ChannelRecord) (span : Nat) :
    (r.convert span c).value = r.value
      ∧ ((r.convert span c).condition, (r.convert span c).run) =
        (match r.condition with
          | .unseen => (Condition.unseen, 0)
          | .normal => (.doubtful, 1)
          | .doubtful => if r.run < 2 then (.doubtful, r.run + 1) else (.faulted, 0)
          | .faulted | .clearing => (.faulted, 0)) := by
  unfold ChannelRecord.convert ChannelRecord.bad
  rw [if_neg (by rw [goodCount_iff]; exact h)]
  cases r.condition with
  | unseen | normal | faulted | clearing => exact ⟨rfl, rfl⟩
  | doubtful =>
    simp only
    split <;> exact ⟨rfl, rfl⟩

/-- The breakthrough hold timer after a conversion of a channel that leaves record `r` (R50). -/
def brokenHold (c : ChannelId) (r : ChannelRecord) (limit timer : Nat) : Nat :=
  if c = .outletTurbidity ∧ (r.isFaulted = true ∨ r.value < limit) then 0 else timer

/-- The cycle after a conversion of a channel that leaves record `r` (R16). -/
def clearJudged (ch : ChannelId) (r : ChannelRecord) (level : Nat) (c : Cycle) : Cycle :=
  if ch = .wasteTurbidity ∧ c.state = .backwash ∧ c.confirmed.all = true then
    if r.isFaulted = true ∨ level < r.value then { c with clearHold := 0, clearRunning := false }
    else { c with clearRunning := true }
  else c

theorem Cycle.judgeClear_eq (c : Cycle) (r : ChannelRecord) (level : Nat) :
    c.judgeClear r level = clearJudged .wasteTurbidity r level c := by
  unfold Cycle.judgeClear clearJudged
  simp only [Bool.and_eq_true, Bool.or_eq_true, decide_eq_true_eq, true_and]

theorem Scanner.breaksThrough_eq_false (x : Scanner) (cfg : WorkingConfig) :
    x.breaksThrough cfg = false ↔
      x.channels.outletTurbidity.isFaulted = true ∨ x.channels.outletTurbidity.value < cfg.breakthroughLimit := by
  rw [Scanner.breaksThrough, Bool.and_eq_false_iff, Bool.not_eq_false', decide_eq_false_iff_not, Nat.not_le]

/-- What a conversion does beside its record: channel 2 reaches the breakthrough hold, channel 3 the clear-hold timer,
and no other channel either. -/
theorem afterConversion_eq (c : ChannelId) (s : State) :
    afterConversion c s =
      (s.setScan
        { s.scan with
          breakthroughTimer :=
            brokenHold c (s.scan.channels.get c) s.cfg.breakthroughLimit s.scan.breakthroughTimer }).setCycle
        (clearJudged c (s.scan.channels.get c) s.cfg.wasteClearLevel s.cycle) := by
  cases c with
  | dp | flow | chlorine | ph => rfl
  | wasteTurbidity => exact congrArg s.setCycle (Cycle.judgeClear_eq _ _ _)
  | outletTurbidity =>
    have hb := s.scan.breaksThrough_eq_false s.cfg
    unfold afterConversion brokenHold; simp only [true_and, Channels.get, ← hb]
    cases s.scan.breaksThrough s.cfg <;> rfl

theorem clearJudged_state (ch : ChannelId) (r : ChannelRecord) (level : Nat) (c : Cycle) :
    (clearJudged ch r level c).state = c.state := by
  unfold clearJudged
  split
  · split <;> rfl
  · rfl

/-- The record that a conversion leaves on its channel. -/
def convertedRecord (ch : ChannelId) (count : BitVec 12) (s : State) : ChannelRecord :=
  (s.scan.channels.get ch).convert (spanOf s.cfg ch) count.toNat

/-- At the channel's own tick a conversion leaves the pin, the channel's record, and what that record does to the
breakthrough hold and the clear-hold timer (R33, R50, R16). -/
theorem takeConversion_due {ch : ChannelId} {s : State} (h : (s.scan.channels.get ch).due = true) (count : BitVec 12) :
    takeConversion ch count s =
      { s with
        pins := s.pins.setAnalog ch count
        scan :=
          { s.scan with
            channels := s.scan.channels.set ch (convertedRecord ch count s)
            breakthroughTimer :=
              brokenHold ch (convertedRecord ch count s) s.cfg.breakthroughLimit s.scan.breakthroughTimer }
        cycle := clearJudged ch (convertedRecord ch count s) s.cfg.wasteClearLevel s.cycle } := by
  unfold takeConversion; simp only [h, if_true, afterConversion_eq, State.setScan_scan, Channels.get_set]
  rfl

/-- Settles O19: off its tick a conversion reaches the pin alone; at it, the record is that of the two tables. -/
theorem conversionMovesItsChannel : Obligations.ConversionMovesItsChannel := by
  intro ch count s hs
  refine ⟨fun h => event_quiet_of_body hs (takeConversion_off_its_tick count h) rfl, fun h => ?_⟩
  have hev := event_quiet_of_body hs (takeConversion_due h count) (clearJudged_state _ _ _ _)
  generalize ht : State.setLink _ _ = t at hev
  have hrec : t.scan.channels.get ch = convertedRecord ch count s := by rw [← ht]; simp
  refine ⟨t, hev, ?_⟩
  simp only [hrec]
  refine ⟨ChannelRecord.convert_due _ _ _, ChannelRecord.convert_phase _ _ _, fun hn => ?_, fun hn => ?_,
    fun other ho => ?_, by rw [← ht]; rfl, by rw [← ht]; rfl, by rw [← ht]; rfl⟩
  · exact ChannelRecord.convert_good hn _ _
  · exact ChannelRecord.convert_bad hn _ _
  · rw [← ht]; exact (Channels.get_set _ _ _ _).trans (if_neg ho)

end Sys2Proof.Machine
end

section
/-! SUPPORT. The scanner law taken apart, and the scanner's own operations in their ranges (R35, R42, R44, R48, R50). -/

namespace Sys2Proof.Machine

/-! ### The scanner law -/

/-- The ranges of the scanner: the upper bound of a value and the hold of a timer are 0 until scanning begins (R35, R42,
R44, R48, R50). -/
structure Scanner.InRange (x : Scanner) (scanning : Bool) (cfg : WorkingConfig) : Prop where
  records           : ∀ c, (x.channels.get c).wf (if scanning then spanOf cfg c else 0) = true
  ticks             : ∀ c, (x.channels.get c).onItsTick scanning x.scanCount = true
  scanCount         : x.scanCount < 10
  ringLength        : x.ring.length ≤ 8
  ring              : ∀ l ∈ x.ring, l ≤ 1000
  d0                : x.d0 + 50 ≤ cfg.dlim
  loadingTimer      : x.loadingTimer ≤ if scanning then cfg.loadingHold else 0
  breakthroughTimer : x.breakthroughTimer ≤ if scanning then cfg.breakthroughHold else 0
  captureDelay      : x.captureDelay ≤ 6000

/-- The scanner law as a proposition: the ranges, and scanning in every state but STARTING (R33, R161). -/
structure ScanOk (s : State) : Prop where
  inRange : s.scan.InRange s.scanning s.cfg
  begun   : s.cycle.state ≠ .starting → s.scanning = true

theorem scanLaw_iff (s : State) : scanLaw s = true ↔ ScanOk s := by
  have hor : (s.scanning || decide (s.cycle.state = .starting)) = true ↔
      (s.cycle.state ≠ .starting → s.scanning = true) := by
    rw [Bool.or_eq_true, decide_eq_true_eq]
    constructor
    · rintro (h | h) hne
      · exact h
      · exact absurd h hne
    · intro h
      by_cases hs : s.cycle.state = .starting
      · exact .inr hs
      · exact .inl (h hs)
  simp only [scanLaw, Bool.and_eq_true, hor, channels_all_iff, decide_eq_true_eq]
  rw [List.all_eq_true]
  simp only [decide_eq_true_eq]
  constructor
  · rintro ⟨⟨⟨⟨⟨⟨⟨⟨⟨hrec, htick⟩, hcount⟩, hlen⟩, hring⟩, hd0⟩, hload⟩, hbreak⟩, hdelay⟩, hbegun⟩
    exact ⟨⟨hrec, htick, hcount, hlen, hring, hd0, hload, hbreak, hdelay⟩, hbegun⟩
  · rintro ⟨⟨hrec, htick, hcount, hlen, hring, hd0, hload, hbreak, hdelay⟩, hbegun⟩
    exact ⟨⟨⟨⟨⟨⟨⟨⟨⟨hrec, htick⟩, hcount⟩, hlen⟩, hring⟩, hd0⟩, hload⟩, hbreak⟩, hdelay⟩, hbegun⟩

/-- Scanning has begun in a filtering state. -/
theorem ScanOk.scanning_of_filtering {s : State} (h : ScanOk s) (hf : s.cycle.state.filtering = true) :
    s.scanning = true :=
  h.begun fun hs => by rw [hs] at hf; cases hf

/-! ### The channel records -/

/-- The run of a channel condition, as a pair of the two (R35). -/
def runInRange : Condition × Nat → Prop
  | (.unseen, run) | (.normal, run) | (.faulted, run) => run = 0
  | (.doubtful, run) | (.clearing, run) => 1 ≤ run ∧ run ≤ 2

theorem ChannelRecord.wf_iff (r : ChannelRecord) (span : Nat) :
    r.wf span = true ↔ r.value ≤ span ∧ runInRange (r.condition, r.run) := by
  unfold ChannelRecord.wf
  cases r.condition <;> simp [runInRange]

theorem ChannelRecord.onItsTick_iff (r : ChannelRecord) (scanning : Bool) (count : Nat) :
    r.onItsTick scanning count = true ↔ r.phase < 10 ∧ (r.due = true → scanning = true ∧ r.phase = count) := by
  unfold ChannelRecord.onItsTick
  cases r.due <;> simp

/-- A conversion leaves its record in its ranges, whatever the count (R35, R36, R37). -/
theorem ChannelRecord.wf_convert {r : ChannelRecord} {span : Nat} (h : r.wf span = true) (c : Nat) :
    (r.convert span c).wf span = true := by
  obtain ⟨hv, hr⟩ := (r.wf_iff span).1 h
  rw [ChannelRecord.wf_iff]
  by_cases hc : 720 ≤ c ∧ c ≤ 4080
  · obtain ⟨hvalue, htable⟩ := r.convert_good hc span
    rw [hvalue, htable]
    refine ⟨convert_le span c, ?_⟩
    cases hcond : r.condition with
    | unseen | normal | doubtful => exact rfl
    | faulted => exact ⟨Nat.le_refl 1, by decide⟩
    | clearing =>
      simp only
      split
      · exact ⟨by omega, by omega⟩
      · exact rfl
  · obtain ⟨hvalue, htable⟩ := r.convert_bad hc span
    rw [hvalue, htable]
    refine ⟨hv, ?_⟩
    cases hcond : r.condition with
    | unseen | faulted | clearing => exact rfl
    | normal => exact ⟨Nat.le_refl 1, by decide⟩
    | doubtful =>
      simp only
      split
      · exact ⟨by omega, by omega⟩
      · exact rfl

/-- A conversion is the one of its tick, and leaves none due (R33). -/
theorem ChannelRecord.onItsTick_convert {r : ChannelRecord} {scanning : Bool} {count : Nat}
    (h : r.onItsTick scanning count = true) (span c : Nat) : (r.convert span c).onItsTick scanning count = true := by
  rw [ChannelRecord.onItsTick_iff] at h ⊢
  rw [ChannelRecord.convert_phase, ChannelRecord.convert_due]
  exact ⟨h.1, nofun⟩

/-! ### The scanner's operations -/

/-- The capture mark set by the clean-bed signal (R45). -/
def Scanner.armed (x : Scanner) : Scanner := { x with captureArmed := true, captureDelay := 0 }

theorem Scanner.InRange.armed {x : Scanner} {scanning : Bool} {cfg : WorkingConfig} (h : x.InRange scanning cfg) :
    x.armed.InRange scanning cfg := { h with captureDelay := Nat.zero_le _ }

theorem Scanner.InRange.countCapture {x : Scanner} {scanning : Bool} {cfg : WorkingConfig} (h : x.InRange scanning cfg)
    (filtering : Bool) : (x.countCapture filtering).InRange scanning cfg := by
  rw [Scanner.countCapture_eq]
  refine { h with captureDelay := ?_ }
  have := h.captureDelay
  have := incTo_le 6000 x.captureDelay
  simp only; split <;> omega

/-- A capture leaves D0 at most Dlim - 50, and a push a ring in its ranges (R42, R44, R46). -/
theorem Scanner.InRange.captureOrPush {x : Scanner} {scanning : Bool} {cfg : WorkingConfig} (h : x.InRange scanning cfg)
    (dc : Nat) : (x.captureOrPush dc cfg.dlim).InRange scanning cfg := by
  have hd0 := h.d0
  unfold Scanner.captureOrPush
  split
  · exact { h with
            ringLength := Nat.zero_le _, ring := List.forall_mem_nil _, captureDelay := Nat.zero_le _,
            d0 := by simp only; omega }
  · refine { h with ringLength := pushRing_length _ h.ringLength, ring := fun l hl => ?_ }
    rcases pushRing_mem hl with hl | rfl
    · exact h.ring l hl
    · exact loadingValue_le _ _ _

theorem loadingTimerOf_le (ls : Option Nat) (filtering : Bool) (cfg : WorkingConfig) (timer : Nat) :
    loadingTimerOf ls filtering cfg timer ≤ if filtering then cfg.loadingHold else 0 := by
  unfold loadingTimerOf
  cases filtering with
  | false => cases ls <;> simp
  | true =>
    cases ls with
    | none => exact Nat.zero_le _
    | some l =>
      simp only [Bool.true_and, if_true]; split
      · exact incTo_le _ _
      · exact Nat.zero_le _

/-- A second tick keeps the scanner in its ranges: the timers count in a filtering state alone, where scanning has begun
(R47, R48, R50). -/
theorem ScanOk.scannerSecond {s : State} (h : ScanOk s) : ScanOk (scannerSecond s) := by
  refine ⟨?_, h.begun⟩
  show (Machine.scannerSecond s).scan.InRange s.scanning s.cfg
  have hloaded : s.loaded.InRange s.scanning s.cfg := by
    unfold State.loaded; split
    · exact (h.inRange.countCapture _).captureOrPush _
    · exact h.inRange.countCapture _
  have hbound : ∀ hold : Nat, (if s.cycle.state.filtering then hold else 0) ≤ if s.scanning then hold else 0 := by
    intro hold
    split
    · next hf => rw [h.scanning_of_filtering hf]; exact Nat.le_refl _
    · exact Nat.zero_le _
  rw [scannerSecond_scan]
  refine { hloaded with
           loadingTimer := Nat.le_trans (loadingTimerOf_le _ _ _ _) (hbound _),
           breakthroughTimer := Nat.le_trans ?_ (hbound s.cfg.breakthroughHold) }
  cases s.cycle.state.filtering with
  | false => exact Nat.le_refl 0
  | true =>
    simp only [Bool.true_and, if_true]; split
    · exact incTo_le _ _
    · exact Nat.zero_le _

/-- A conversion keeps the scanner in its ranges: one is due only where scanning has begun (R33). -/
theorem ScanOk.takeConversion {s : State} (h : ScanOk s) (ch : ChannelId) (count : BitVec 12) :
    ScanOk (takeConversion ch count s) := by
  cases hd : (s.scan.channels.get ch).due with
  | false => rw [takeConversion_off_its_tick count hd]; exact ⟨h.inRange, h.begun⟩
  | true =>
    have hscan : s.scanning = true := (((ChannelRecord.onItsTick_iff _ _ _).1 (h.inRange.ticks ch)).2 hd).1
    have hwf := h.inRange.records ch
    rw [hscan, if_pos rfl] at hwf
    rw [takeConversion_due hd]
    refine ⟨?_, fun _ => hscan⟩
    refine { h.inRange with records := fun c => ?_, ticks := fun c => ?_, breakthroughTimer := ?_ }
    · show ((s.scan.channels.set ch (convertedRecord ch count s)).get c).wf
        (if s.scanning then spanOf s.cfg c else 0) = true
      by_cases hc : c = ch
      · subst hc
        rw [Channels.get_set, if_pos rfl, hscan, if_pos rfl]; exact ChannelRecord.wf_convert hwf _
      · rw [Channels.get_set, if_neg hc]; exact h.inRange.records c
    · show ((s.scan.channels.set ch (convertedRecord ch count s)).get c).onItsTick s.scanning s.scan.scanCount = _
      rw [Channels.get_set]; split
      · exact ChannelRecord.onItsTick_convert (h.inRange.ticks ch) _ _
      · exact h.inRange.ticks c
    · refine Nat.le_trans ?_ h.inRange.breakthroughTimer
      simp only [brokenHold]; split <;> omega

/-- A tick keeps the scanner in its ranges, and marks the conversions that are due at it (R33, R45). -/
theorem Scanner.InRange.countTick {x : Scanner} {cfg : WorkingConfig} (h : x.InRange true cfg)
    (second filtering : Bool) : (x.countTick second filtering).InRange true cfg := by
  have hmark : ({ x with
                  scanCount := (x.scanCount + 1) % 10
                  channels := x.channels.markDue ((x.scanCount + 1) % 10) } : Scanner).InRange true cfg := by
    refine { h with records := fun c => ?_, ticks := fun c => ?_, scanCount := Nat.mod_lt _ (by decide) }
    · simp only [Channels.get_markDue]; exact h.records c
    · simp only [Channels.get_markDue]
      have hphase := ((ChannelRecord.onItsTick_iff _ _ _).1 (h.ticks c)).1
      exact (ChannelRecord.onItsTick_iff _ _ _).2 ⟨hphase, fun hd => ⟨rfl, of_decide_eq_true hd⟩⟩
  unfold Scanner.countTick; simp only
  split
  · exact hmark
  · exact hmark.countCapture _

theorem scanOk_tick {s : State} (h : ScanOk s) : ScanOk (tick s) := by
  unfold tick; split
  · next ht =>
    have hscan := ((ticking_iff s).1 ht).2
    have hr := h.inRange
    rw [hscan] at hr
    have hcount := hr.countTick s.secondNow s.cycle.state.filtering
    rw [← hscan] at hcount
    exact ⟨hcount, fun _ => hscan⟩
  · exact h

/-! ### The load and the resets -/

/-- D0's default stands at least 100 below Dlim in every working configuration (R165). -/
theorem settledConfig_d0 (outcome : LoadOutcome) (block : List Byte) :
    (settledConfig outcome block).1.d0Default + 50 ≤ (settledConfig outcome block).1.dlim := by
  cases outcome with
  | good =>
    have h : (settledConfig .good block).1.d0Default + 100 ≤ (settledConfig .good block).1.dlim := Nat.le_max_right _ _
    omega
  | absent | checksum | version => exact (by decide : 250 + 50 ≤ 800)

/-- Scanning begins on records that have seen nothing (R33, R44). -/
theorem Scanner.InRange.beginScanning {x : Scanner} {old cfg : WorkingConfig} (h : x.InRange false old)
    (hd0 : cfg.d0Default + 50 ≤ cfg.dlim) (serial : Nat) :
    (beginScanning serial cfg x).InRange true cfg := by
  have hrec : ∀ c, ∃ n, ((Machine.beginScanning serial cfg x).channels.get c) =
      { x.channels.get c with phase := n % 10 } := fun c => by cases c <;> exact ⟨_, rfl⟩
  refine { h with
           records := fun c => ?_, ticks := fun c => ?_, scanCount := (by decide : 0 < 10), d0 := hd0,
           loadingTimer := Nat.le_trans h.loadingTimer (Nat.zero_le _),
           breakthroughTimer := Nat.le_trans h.breakthroughTimer (Nat.zero_le _) }
  · obtain ⟨n, hn⟩ := hrec c
    obtain ⟨hvalue, hrun⟩ := (ChannelRecord.wf_iff _ _).1 (h.records c)
    rw [hn, ChannelRecord.wf_iff]
    exact ⟨Nat.le_trans hvalue (Nat.zero_le _), hrun⟩
  · obtain ⟨n, hn⟩ := hrec c
    have hdue := ((ChannelRecord.onItsTick_iff _ _ _).1 (h.ticks c)).2
    rw [hn, ChannelRecord.onItsTick_iff]
    exact ⟨Nat.mod_lt _ (by decide), fun hd => absurd (hdue hd).1 (by decide)⟩

theorem ScanOk.settleLoad {s : State} (h : ScanOk s) (acks : Bool) (block : List Byte) :
    ScanOk (settleLoad acks block s) := by
  unfold Machine.settleLoad; split
  · exact h
  · next hl =>
    have hr := h.inRange
    rw [show s.scanning = false by simp [State.scanning, hl]] at hr
    exact ⟨hr.beginScanning (settledConfig_d0 _ _) s.serial, fun _ => rfl⟩

/-- A reset leaves the scanner as it is after reset, in STARTING (R35, R42, R44). -/
theorem scanOk_resetStation (k : ResetKind) (s : State) : ScanOk (resetStation k s) :=
  (scanLaw_iff _).1 (by decide : scanLaw State.reset = true)

end Sys2Proof.Machine
end

section
/-! SUPPORT. The counter law taken apart (00, section 1.6), and what the operations of the cycle controller, the share
arbiter and the dosing unit do to the scanner and the counters: the clean-bed signal alone reaches the scanner, and a
counter counts by saturation alone. -/

namespace Sys2Proof.Machine

/-! ### The counter law -/

/-- The link's counters are 0-255. -/
structure Link.CountersOk (l : Link) : Prop where
  formatErrors : l.formatErrors ≤ 255
  signalErrors : l.signalErrors ≤ 255
  txFailures   : l.txFailures ≤ 255
  linkOffs     : l.linkOffs ≤ 255

/-- The counter law as a proposition. -/
structure CountersOk (s : State) : Prop where
  link              : s.link.CountersOk
  claimLapses       : s.peers.claimLapses ≤ 255
  statusLapses      : s.peers.statusLapses ≤ 255
  contestsLost      : s.arb.contestsLost ≤ 255
  overlaps          : s.arb.overlaps ≤ 255
  dropped           : s.req.dropped ≤ 255
  duplicateReadings : s.dose.duplicateReadings ≤ 255

theorem counterLaw_iff (s : State) : counterLaw s = true ↔ CountersOk s := by
  simp only [counterLaw, Bool.and_eq_true, decide_eq_true_eq]
  constructor
  · rintro ⟨⟨⟨⟨⟨⟨⟨⟨⟨hf, hs⟩, ht⟩, ho⟩, hc⟩, hst⟩, hl⟩, hov⟩, hd⟩, hr⟩
    exact ⟨⟨hf, hs, ht, ho⟩, hc, hst, hl, hov, hd, hr⟩
  · rintro ⟨⟨hf, hs, ht, ho⟩, hc, hst, hl, hov, hd, hr⟩
    exact ⟨⟨⟨⟨⟨⟨⟨⟨⟨hf, hs⟩, ht⟩, ho⟩, hc⟩, hst⟩, hl⟩, hov⟩, hd⟩, hr⟩

theorem Link.CountersOk.offer {l : Link} (h : l.CountersOk) (f : TxFrame) : (l.offer f).CountersOk := by
  obtain ⟨_, _, _, _, he, -⟩ := l.offer_keeps f
  rw [he]; exact { h with }

theorem Link.CountersOk.take {l : Link} (h : l.CountersOk) : l.take.CountersOk := by
  obtain ⟨_, _, _, _, _, _, he, -⟩ := l.take_keeps
  rw [he]; exact { h with }

theorem Link.CountersOk.countFormatError {l : Link} (h : l.CountersOk) : l.countFormatError.CountersOk :=
  { h with formatErrors := satInc_le _ }

theorem Link.CountersOk.countSignalError {l : Link} (h : l.CountersOk) : l.countSignalError.CountersOk :=
  { h with signalErrors := satInc_le _ }

theorem Link.CountersOk.fail {l : Link} (h : l.CountersOk) : l.fail.CountersOk := by
  unfold Link.fail; simp only
  split
  · exact { h with txFailures := satInc_le _, linkOffs := satInc_le _ }
  · exact { h with txFailures := satInc_le _ }

theorem Link.CountersOk.complete {l : Link} (h : l.CountersOk) : l.complete.CountersOk := { h with }

theorem Link.CountersOk.endOff {l : Link} (h : l.CountersOk) : l.endOff.CountersOk := { h with }

theorem Link.CountersOk.afterArrival {l : Link} (h : l.CountersOk) : l.afterArrival.CountersOk := by
  unfold Link.afterArrival; split
  · exact { h with }
  · exact h
  · exact h

theorem Link.CountersOk.startAttempt {l : Link} (h : l.CountersOk) : l.startAttempt.CountersOk := by
  unfold Link.startAttempt; split
  · exact { h with }
  · exact h

theorem Link.CountersOk.loseMedium {l : Link} (h : l.CountersOk) : l.loseMedium.CountersOk := by
  unfold Link.loseMedium; split
  · exact { h with }
  · exact h

theorem Link.CountersOk.countTick {l : Link} (h : l.CountersOk) : l.countTick.CountersOk := { h with }

/-! ### The parts of an event -/

/-- `t` has the scanner of `s`, but for the clean-bed signal, and its counters in their ranges where those of `s`
are. -/
structure KeepsScan (s t : State) : Prop where
  scan     : t.scan = s.scan ∨ t.scan = s.scan.armed
  counters : CountersOk s → CountersOk t

theorem KeepsScan.refl (s : State) : KeepsScan s s := ⟨.inl rfl, id⟩

theorem KeepsScan.trans {s t u : State} (h : KeepsScan s t) (k : KeepsScan t u) : KeepsScan s u := by
  refine ⟨?_, k.counters ∘ h.counters⟩
  rcases h.scan with hs | hs <;> rcases k.scan with ks | ks <;> rw [ks, hs]
  · exact .inl rfl
  · exact .inr rfl
  · exact .inr rfl
  · exact .inr rfl

theorem keepsScan_setCycle (s : State) (x : Cycle) : KeepsScan s (s.setCycle x) := ⟨.inl rfl, fun h => { h with }⟩

theorem keepsScan_setValves (s : State) (x : Valves) : KeepsScan s (s.setValves x) := ⟨.inl rfl, fun h => { h with }⟩

theorem keepsScan_setArb {s : State} {x : Arbiter} (hl : s.arb.contestsLost ≤ 255 → x.contestsLost ≤ 255)
    (ho : s.arb.overlaps ≤ 255 → x.overlaps ≤ 255) : KeepsScan s (s.setArb x) :=
  ⟨.inl rfl, fun h => { h with contestsLost := hl h.contestsLost, overlaps := ho h.overlaps }⟩

theorem keepsScan_setDose {s : State} {x : Dosing}
    (h : s.dose.duplicateReadings ≤ 255 → x.duplicateReadings ≤ 255) : KeepsScan s (s.setDose x) :=
  ⟨.inl rfl, fun hc => { hc with duplicateReadings := h hc.duplicateReadings }⟩

theorem keepsScan_setLink {s : State} {x : Link} (h : s.link.CountersOk → x.CountersOk) : KeepsScan s (s.setLink x) :=
  ⟨.inl rfl, fun hc => { hc with link := h hc.link }⟩

theorem keepsScan_setReq {s : State} {x : Requests} (h : s.req.dropped ≤ 255 → x.dropped ≤ 255) :
    KeepsScan s (s.setReq x) :=
  ⟨.inl rfl, fun hc => { hc with dropped := h hc.dropped }⟩

theorem keepsScan_setPeers {s : State} {x : PeerTable} (hc : s.peers.claimLapses ≤ 255 → x.claimLapses ≤ 255)
    (hs : s.peers.statusLapses ≤ 255 → x.statusLapses ≤ 255) : KeepsScan s (s.setPeers x) :=
  ⟨.inl rfl, fun h => { h with claimLapses := hc h.claimLapses, statusLapses := hs h.statusLapses }⟩

theorem keepsScan_cleanBedSignal (s : State) : KeepsScan s (cleanBedSignal s) := ⟨.inr rfl, fun h => { h with }⟩

/-! ### Offers and the arbiter -/

theorem keepsScan_offer (f : TxFrame) (s : State) : KeepsScan s (offer f s) := keepsScan_setLink fun h => h.offer f

theorem keepsScan_finish (c : CycleState) (b : Bool) (s : State) : KeepsScan s (finish c b s) := by
  rw [finish_eq]
  refine keepsScan_setLink fun h => ?_
  split
  · exact (h.offer _).take
  · exact h.take

theorem keepsScan_setBackoff (s : State) : KeepsScan s (setBackoff s) := keepsScan_setArb id id

theorem keepsScan_dropClaim (s : State) : KeepsScan s (dropClaim s) := keepsScan_setArb id id

theorem keepsScan_withdraw (s : State) : KeepsScan s (withdraw s) :=
  (keepsScan_offer _ s).trans (keepsScan_dropClaim _)

theorem keepsScan_takeHold (u : Nat) (s : State) : KeepsScan s (takeHold u s) := by
  refine .trans ?_ (keepsScan_offer _ _)
  exact keepsScan_setArb id id

theorem keepsScan_releaseFinished (s : State) : KeepsScan s (releaseFinished s) :=
  (keepsScan_offer _ s).trans (keepsScan_setArb id id)

theorem keepsScan_wasteReport (v : ValveId) (a b : ValveState) (s : State) : KeepsScan s (wasteReport v a b s) := by
  rcases wasteReport_cases v a b s with h | h | h <;> rw [h]
  · rcases wasteLeftClosed_cases s with e | e <;> rw [e]
    · exact .refl s
    · exact keepsScan_takeHold _ s
  · rcases wasteBecameClosed_cases s with e | e <;> rw [e]
    · exact keepsScan_releaseFinished s
    · exact .refl s
  · exact .refl s

theorem keepsScan_releaseAtLockout (s : State) : KeepsScan s (releaseAtLockout s) := by
  unfold releaseAtLockout; split
  · exact keepsScan_releaseFinished s
  · exact .refl s

theorem keepsScan_arbiterSurvey (s : State) : KeepsScan s (arbiterSurvey s) := by
  unfold arbiterSurvey; split
  · exact keepsScan_offer _ s
  · exact keepsScan_takeHold _ s

/-! ### The cycle controller -/

theorem keepsScan_enterState (new : CycleState) (s : State) : KeepsScan s (enterState new s) := by
  rw [enterState_eq]
  refine ((keepsScan_setCycle s _).trans (keepsScan_setDose fun h => ?_)).trans
    (keepsScan_setArb (fun h => ?_) fun h => ?_)
  · split <;> exact h
  · split <;> exact h
  · split <;> exact h

theorem keepsScan_clearDue (s : State) : KeepsScan s (clearDue s) := keepsScan_setCycle s _

theorem keepsScan_commandSet (set : ValveSet) (s : State) : KeepsScan s (commandSet set s) :=
  (((keepsScan_setValves s _).trans (keepsScan_setCycle _ _)).trans (keepsScan_wasteReport _ _ _ _)).trans
    (keepsScan_wasteReport _ _ _ _)

theorem keepsScan_addRecord (o : WashOutcome) (s : State) : KeepsScan s (addRecord o s) := keepsScan_setCycle s _

theorem keepsScan_clearOutcome (s : State) : KeepsScan s (clearOutcome s) := keepsScan_setCycle s _

theorem keepsScan_lockOut (s : State) : KeepsScan s (lockOut s) := by
  have hend : ∀ u : State, KeepsScan u
      (releaseAtLockout
        ((enterState .lockedOut u).setValves ((enterState .lockedOut u).valves.map fun _ c => c.stop))) :=
    fun u => ((keepsScan_enterState _ u).trans (keepsScan_setValves _ _)).trans (keepsScan_releaseAtLockout _)
  unfold lockOut; simp only
  split
  · exact ((keepsScan_addRecord _ s).trans (keepsScan_clearOutcome _)).trans (hend _)
  · exact hend s

theorem keepsScan_clearRunSeconds (s : State) : KeepsScan s (clearRunSeconds s) := by
  rw [clearRunSeconds_eq]; exact keepsScan_setCycle s _

/-- The completion of a wash is where the clean-bed signal is given (R22, R45). -/
theorem keepsScan_completeWash (o : WashOutcome) (s : State) : KeepsScan s (completeWash o s) := by
  have hrec : ∀ u : State, KeepsScan u (clearRunSeconds (addRecord o u)) := fun u =>
    (keepsScan_addRecord o u).trans (keepsScan_clearRunSeconds _)
  have hrel := keepsScan_releaseFinished s
  unfold completeWash; simp only
  refine .trans ?_ (keepsScan_clearOutcome _)
  split
  · exact ((hrel.trans (keepsScan_setBackoff _)).trans (hrec _)).trans (keepsScan_enterState _ _)
  · have hin := ((hrel.trans (hrec _)).trans (keepsScan_clearDue _)).trans (keepsScan_enterState .inService _)
    split
    · exact hin.trans (keepsScan_cleanBedSignal _)
    · exact hin

theorem keepsScan_recoveringSettled (s : State) : KeepsScan s (recoveringSettled s) := by
  unfold recoveringSettled
  generalize (if s.cycle.due = .none then CycleState.inService else .waiting) = c
  simp only
  split
  · exact (keepsScan_enterState _ s).trans (keepsScan_releaseFinished _)
  · exact keepsScan_enterState _ s

theorem keepsScan_onSettled (s : State) : KeepsScan s (onSettled s) := by
  unfold onSettled; split
  · exact keepsScan_completeWash _ s
  · exact keepsScan_recoveringSettled s
  · exact keepsScan_enterState _ s
  · exact .refl s

theorem keepsScan_enterCommanding (new : CycleState) (set : ValveSet) (s : State) :
    KeepsScan s (enterCommanding new set s) := by
  have h := (keepsScan_enterState new s).trans (keepsScan_commandSet set _)
  unfold enterCommanding; simp only
  split
  · exact h.trans (keepsScan_lockOut _)
  · split
    · exact h.trans (keepsScan_onSettled _)
    · exact h

theorem keepsScan_enterRecovering (s : State) : KeepsScan s (enterRecovering s) := keepsScan_enterCommanding _ _ s

theorem keepsScan_enterReturning (s : State) : KeepsScan s (enterReturning s) := keepsScan_enterCommanding _ _ s

theorem keepsScan_cutShort (o : WashOutcome) (s : State) : KeepsScan s (cutShort o s) := by
  rw [cutShort_eq]; exact (keepsScan_setCycle s _).trans (keepsScan_enterReturning _)

theorem keepsScan_enterStep (step : CycleState) (s : State) : KeepsScan s (enterStep step s) := by
  have h := (keepsScan_enterState step s).trans (keepsScan_commandSet (stepSet step) _)
  unfold enterStep; simp only
  split
  · exact h.trans (keepsScan_cutShort _ _)
  · exact h

theorem keepsScan_endBackwash (o : WashOutcome) (s : State) : KeepsScan s (endBackwash o s) := by
  rw [endBackwash_eq]; exact (keepsScan_setCycle s _).trans (keepsScan_enterStep _ _)

theorem keepsScan_valveFault (s : State) : KeepsScan s (valveFault s) := by
  have hcontest : KeepsScan s (endContestAtFault s) := by
    unfold endContestAtFault; split
    · exact keepsScan_withdraw s
    · exact .refl s
  unfold valveFault
  cases s.cycle.state with
  | starting | lockedOut => exact .refl s
  | inService | waiting => exact keepsScan_enterRecovering s
  | contest => exact hcontest.trans (keepsScan_enterRecovering _)
  | drainDown | airScour | backwash | settle | rinse => exact keepsScan_cutShort _ s
  | recovering | returning | isolating | isolated => exact keepsScan_lockOut s

theorem keepsScan_valveConfirmed (v : ValveId) (s : State) : KeepsScan s (valveConfirmed v s) := by
  unfold valveConfirmed; simp only
  split
  · exact (keepsScan_setCycle s _).trans (keepsScan_onSettled _)
  · exact keepsScan_setCycle s _

theorem keepsScan_channelEvent (v : ValveId) (x : Valve × Report) (s : State) : KeepsScan s (channelEvent v x s) := by
  have h := (keepsScan_setValves s (s.valves.set v x.1)).trans
    (keepsScan_wasteReport v (s.valves.get v).state x.1.state _)
  unfold channelEvent; simp only
  split
  · exact h
  · exact h.trans (keepsScan_valveConfirmed _ _)
  · exact h.trans (keepsScan_valveFault _)

theorem keepsScan_raiseDue (r : DueReason) (s : State) : KeepsScan s (raiseDue r s) :=
  (keepsScan_setCycle s _).trans (keepsScan_enterState _ _)

theorem keepsScan_cycleSecond (s : State) : KeepsScan s (cycleSecond s) := by
  have hdue : ∀ u, KeepsScan u (evaluateDue u) := by
    intro u
    rcases evaluateDue_cases u with h | ⟨r, h⟩ | ⟨r, h⟩ <;> rw [h]
    · exact .refl u
    · exact keepsScan_raiseDue r u
    · exact keepsScan_setCycle u _
  exact (keepsScan_setCycle s _).trans (hdue _)

theorem keepsScan_operatorWash (s : State) : KeepsScan s (operatorWash s) := by
  unfold operatorWash; split
  · exact keepsScan_raiseDue _ s
  · exact keepsScan_setCycle s _
  · exact keepsScan_setCycle s _
  · exact .refl s

/-! ### The contest -/

theorem keepsScan_tryContest (s : State) : KeepsScan s (tryContest s) := by
  unfold tryContest; split
  · refine .trans (.trans ?_ (keepsScan_offer _ _)) (keepsScan_enterState _ _)
    exact keepsScan_setArb id id
  · exact .refl s

/-- A contest lost is counted by saturation, where it is counted (R94). -/
theorem keepsScan_loseContest (counted : Bool) (s : State) : KeepsScan s (loseContest counted s) := by
  have h := (keepsScan_withdraw s).trans (keepsScan_setBackoff _)
  unfold loseContest; simp only
  refine .trans ?_ (keepsScan_enterState _ _)
  split
  · exact h.trans (keepsScan_setArb (fun _ => satInc_le _) id)
  · exact h

theorem keepsScan_winContest (u : Nat) (s : State) : KeepsScan s (winContest u s) :=
  ((keepsScan_takeHold u s).trans (keepsScan_clearOutcome _)).trans (keepsScan_enterStep _ _)

theorem keepsScan_takeOverlap (e : PeerEntry) (s : State) : KeepsScan s (takeOverlap e s) := by
  have h : KeepsScan s (s.setArb { s.arb with overlaps := satInc s.arb.overlaps }) :=
    keepsScan_setArb id fun _ => satInc_le _
  unfold takeOverlap; simp only
  split
  · exact h.trans (keepsScan_cutShort _ _)
  · exact h

theorem keepsScan_changeReport (e : Option PeerEntry) (s : State) : KeepsScan s (changeReport e s) := by
  unfold changeReport
  split
  · split
    · exact .refl s
    · exact keepsScan_loseContest _ s
  · split
    · split
      · exact .refl s
      · split
        · exact .refl s
        · exact keepsScan_takeOverlap _ s
    · exact keepsScan_tryContest s

theorem keepsScan_endContestUncounted (s : State) : KeepsScan s (endContestUncounted s) := by
  unfold endContestUncounted; split
  · exact keepsScan_loseContest _ s
  · exact .refl s

theorem keepsScan_linkOffReport (s : State) : KeepsScan s (linkOffReport s) := by
  unfold linkOffReport
  split
  · exact keepsScan_cutShort _ s
  · split
    · split
      · exact ((keepsScan_dropClaim s).trans (keepsScan_setBackoff _)).trans (keepsScan_enterState _ _)
      · exact keepsScan_enterState _ s
    · exact .refl s

/-! ### The dosing unit and the requests -/

theorem keepsScan_dosingSecond (s : State) : KeepsScan s (dosingSecond s) := by
  have hown : KeepsScan s (sampleOwnChannels s) := by
    unfold sampleOwnChannels; split
    · exact keepsScan_setDose id
    · exact .refl s
  have hperiod : ∀ u, KeepsScan u (countReadingPeriod u) := by
    intro u
    unfold countReadingPeriod; split
    · split
      · refine .trans ?_ (keepsScan_offer _ _)
        exact keepsScan_setDose id
      · exact keepsScan_setDose id
    · exact .refl u
  have hdecide : ∀ u, KeepsScan u (decideDosing u) := fun u =>
    keepsScan_setDose fun h => by
      obtain ⟨-, -, -, hdup⟩ := decideDosing_record u
      exact Nat.le_trans (Nat.le_of_eq hdup) h
  exact (hown.trans (hperiod _)).trans (hdecide _)

theorem keepsScan_abandonWash (s : State) : KeepsScan s (abandonWash s) := by
  have hend : ∀ u, KeepsScan u (enterState .inService (clearDue u)) := fun u =>
    (keepsScan_clearDue u).trans (keepsScan_enterState _ _)
  unfold abandonWash; simp only
  split
  · exact keepsScan_cutShort _ s
  · split
    · exact (keepsScan_withdraw s).trans (hend _)
    · exact hend s

/-- CLEAR_COUNTERS sets the counters to 0 (R150). -/
theorem keepsScan_clearAllCounters (s : State) : KeepsScan s (clearAllCounters s) :=
  have h0 : 0 ≤ 255 := Nat.zero_le _
  ⟨.inl rfl, fun _ => ⟨⟨h0, h0, h0, h0⟩, h0, h0, h0, h0, h0, h0⟩⟩

theorem keepsScan_carryOut (code : RequestCode) (s : State) : KeepsScan s (carryOut code s) := by
  cases code with
  | washNow => exact keepsScan_operatorWash s
  | abandonWash => exact keepsScan_abandonWash s
  | inhibitSet =>
    have hreq : KeepsScan s (s.setReq { s.req with inhibitFlag := true }) := keepsScan_setReq id
    simp only [carryOut, setInhibit]; split
    · exact hreq
    · exact hreq.trans (keepsScan_endContestUncounted _)
  | inhibitClear | restart | clearResetCause => exact keepsScan_setReq id
  | isolate => exact (keepsScan_clearDue s).trans (keepsScan_enterCommanding _ _ _)
  | returnToService => exact keepsScan_enterRecovering s
  | doseReset => exact keepsScan_setDose id
  | readCounters | readWashRecord => exact .refl s
  | clearCounters => exact keepsScan_clearAllCounters s

end Sys2Proof.Machine
end

section
/-! SUPPORT. Every command and every tick keeps the ranges of the scanner and of the counters: what the blocks do in
STARTING, the bodies of the events one by one, and the step. -/

namespace Sys2Proof.Machine

/-! ### In STARTING the cycle controller and the arbiter take nothing (R31, R91, R144) -/

theorem onSettled_of_starting {s : State} (h : s.cycle.state = .starting) : onSettled s = s := by
  unfold onSettled; rw [h]

theorem valveFault_of_starting {s : State} (h : s.cycle.state = .starting) : valveFault s = s := by
  unfold valveFault; rw [h]

theorem operatorWash_of_starting {s : State} (h : s.cycle.state = .starting) : operatorWash s = s := by
  unfold operatorWash; rw [h]

theorem endContestUncounted_of_starting {s : State} (h : s.cycle.state = .starting) : endContestUncounted s = s := by
  simp [endContestUncounted, inContest, h]

theorem changeReport_of_starting {s : State} (h : s.cycle.state = .starting) (e : Option PeerEntry) :
    changeReport e s = s := by
  simp [changeReport, inContest, h, CycleState.washStep, tryContest]

theorem linkOffReport_of_starting {s : State} (h : s.cycle.state = .starting) : linkOffReport s = s := by
  simp [linkOffReport, h, CycleState.washStep]

theorem valveConfirmed_of_starting {s : State} (h : s.cycle.state = .starting) (v : ValveId) :
    (valveConfirmed v s).cycle.state = .starting := by
  have hmark : (s.setCycle { s.cycle with confirmed := s.cycle.confirmed.mark v }).cycle.state = .starting := h
  unfold valveConfirmed; simp only
  split
  · rw [onSettled_of_starting hmark]; exact h
  · exact h

/-- A channel's event in STARTING leaves the cycle there, whatever its report (R31). -/
theorem channelEvent_of_starting {s : State} (h : s.cycle.state = .starting) (v : ValveId) (x : Valve × Report) :
    (channelEvent v x s).cycle.state = .starting := by
  have hr : (wasteReport v (s.valves.get v).state x.1.state (s.setValves (s.valves.set v x.1))).cycle.state =
      .starting := by rw [wasteReport_cycle]; exact h
  unfold channelEvent; simp only
  split
  · exact hr
  · exact valveConfirmed_of_starting hr v
  · rw [valveFault_of_starting hr]; exact hr

/-! ### The ranges across the parts of an event -/

/-- `t` has the scanner law where `s` has it, and likewise the counter law. -/
structure KeepsRanges (s t : State) : Prop where
  scan     : ScanOk s → ScanOk t
  counters : CountersOk s → CountersOk t

theorem KeepsRanges.refl (s : State) : KeepsRanges s s := ⟨id, id⟩

theorem KeepsRanges.trans {s t u : State} (h : KeepsRanges s t) (k : KeepsRanges t u) : KeepsRanges s u :=
  ⟨k.scan ∘ h.scan, k.counters ∘ h.counters⟩

/-- A part of an event that leaves the loader keeps the ranges, where it does not leave STARTING before scanning has
begun. -/
theorem KeepsScan.keepsRanges {s t : State} (h : KeepsScan s t) (hl : t.load = s.load)
    (hst : s.cycle.state = .starting → t.cycle.state = .starting ∨ s.scanning = true) : KeepsRanges s t := by
  have hscan : t.scanning = s.scanning := by unfold State.scanning; rw [hl]
  have hcfg : t.cfg = s.cfg := by unfold State.cfg; rw [hl]
  refine ⟨fun hs => ⟨?_, fun ht => ?_⟩, h.counters⟩
  · rw [hscan, hcfg]
    rcases h.scan with hx | hx <;> rw [hx]
    · exact hs.inRange
    · exact hs.inRange.armed
  · rw [hscan]
    by_cases h0 : s.cycle.state = .starting
    · exact (hst h0).resolve_left ht
    · exact hs.begun h0

/-- A part that leaves the cycle state, too. -/
theorem KeepsScan.keepsRanges_of_state {s t : State} (h : KeepsScan s t) (hl : t.load = s.load)
    (hst : t.cycle.state = s.cycle.state) : KeepsRanges s t :=
  h.keepsRanges hl fun h0 => .inl (hst.trans h0)

/-- A part that is taken outside STARTING alone. -/
theorem KeepsScan.keepsRanges_of_ne {s t : State} (h : KeepsScan s t) (hl : t.load = s.load)
    (hst : s.cycle.state ≠ .starting) : KeepsRanges s t :=
  h.keepsRanges hl fun h0 => absurd h0 hst

/-- A part that has no effect in STARTING. -/
theorem KeepsScan.keepsRanges_of_idle {s t : State} (h : KeepsScan s t) (hl : t.load = s.load)
    (hst : s.cycle.state = .starting → t = s) : KeepsRanges s t :=
  h.keepsRanges hl fun h0 => .inl (by rw [hst h0]; exact h0)

theorem keepsRanges_setPins (s : State) (x : Pins) : KeepsRanges s (s.setPins x) :=
  ⟨fun h => ⟨h.inRange, h.begun⟩, fun h => { h with }⟩

theorem keepsRanges_setInputs (s : State) (x : Inputs) : KeepsRanges s (s.setInputs x) :=
  ⟨fun h => ⟨h.inRange, h.begun⟩, fun h => { h with }⟩

theorem keepsRanges_setSupplyOk (s : State) (x : Bool) : KeepsRanges s (s.setSupplyOk x) :=
  ⟨fun h => ⟨h.inRange, h.begun⟩, fun h => { h with }⟩

theorem keepsRanges_setPending (s : State) (x : List Instr) : KeepsRanges s (s.setPending x) :=
  ⟨fun h => ⟨h.inRange, h.begun⟩, fun h => { h with }⟩

theorem keepsRanges_setValves (s : State) (x : Valves) : KeepsRanges s (s.setValves x) :=
  (keepsScan_setValves s x).keepsRanges_of_state rfl rfl

theorem keepsRanges_setArb {s : State} {x : Arbiter} (hl : s.arb.contestsLost ≤ 255 → x.contestsLost ≤ 255)
    (ho : s.arb.overlaps ≤ 255 → x.overlaps ≤ 255) : KeepsRanges s (s.setArb x) :=
  (keepsScan_setArb hl ho).keepsRanges_of_state rfl rfl

theorem keepsRanges_setDose {s : State} {x : Dosing}
    (h : s.dose.duplicateReadings ≤ 255 → x.duplicateReadings ≤ 255) : KeepsRanges s (s.setDose x) :=
  (keepsScan_setDose h).keepsRanges_of_state rfl rfl

theorem keepsRanges_setLink {s : State} {x : Link} (h : s.link.CountersOk → x.CountersOk) :
    KeepsRanges s (s.setLink x) :=
  (keepsScan_setLink h).keepsRanges_of_state rfl rfl

theorem keepsRanges_setReq {s : State} {x : Requests} (h : s.req.dropped ≤ 255 → x.dropped ≤ 255) :
    KeepsRanges s (s.setReq x) :=
  (keepsScan_setReq h).keepsRanges_of_state rfl rfl

theorem keepsRanges_setPeers {s : State} {x : PeerTable} (hc : s.peers.claimLapses ≤ 255 → x.claimLapses ≤ 255)
    (hs : s.peers.statusLapses ≤ 255 → x.statusLapses ≤ 255) : KeepsRanges s (s.setPeers x) :=
  (keepsScan_setPeers hc hs).keepsRanges_of_state rfl rfl

theorem keepsRanges_offer (f : TxFrame) (s : State) : KeepsRanges s (offer f s) :=
  (keepsScan_offer f s).keepsRanges_of_state rfl rfl

theorem keepsRanges_event {b : Bool} {body : State → State} {s t : State} (hb : KeepsRanges s (body s))
    (he : event b body s = .next t) : KeepsRanges s t := by
  rcases event_cases he with ⟨-, rfl⟩ | ⟨-, rfl⟩
  · exact .refl _
  · exact hb.trans ((keepsScan_finish _ _ _).keepsRanges_of_state (keeps_finish _ _ _).load (by rw [finish_cycle]))

theorem keepsRanges_whenDue {due : Bool} {effect : State → State} {s : State}
    (he : due = true → KeepsRanges s (effect s)) : KeepsRanges s (whenDue due effect s) := by
  unfold whenDue; split
  · next hd => exact he hd
  · exact .refl s

/-- A reset keeps a counter or sets it to 0 (R159). -/
theorem keepsRanges_resetStation (k : ResetKind) (s : State) : KeepsRanges s (resetStation k s) := by
  refine ⟨fun _ => scanOk_resetStation k s, fun h => ?_⟩
  have hkeep : ∀ n : Nat, n ≤ 255 → k.keep n 0 ≤ 255 := by
    intro n hn
    cases k with
    | power => exact Nat.zero_le _
    | line | request => exact hn
  exact { link := ⟨hkeep _ h.link.formatErrors, hkeep _ h.link.signalErrors, hkeep _ h.link.txFailures,
            hkeep _ h.link.linkOffs⟩
          claimLapses := hkeep _ h.claimLapses, statusLapses := hkeep _ h.statusLapses
          contestsLost := hkeep _ h.contestsLost, overlaps := hkeep _ h.overlaps, dropped := hkeep _ h.dropped
          duplicateReadings := hkeep _ h.duplicateReadings }

/-! ### The bodies of the events -/

theorem keepsRanges_settleLoad (acks : Bool) (block : List Byte) (s : State) :
    KeepsRanges s (settleLoad acks block s) := by
  refine ⟨fun h => h.settleLoad acks block, fun h => ?_⟩
  unfold settleLoad; split
  · exact h
  · exact { h with }

/-- STARTING ends once the load has settled, so that scanning has begun (R33, R161). -/
theorem keepsRanges_endStarting (s : State) : KeepsRanges s (endStarting s) := by
  unfold endStarting; split
  · next hs =>
    have hscan : s.scanning = true := by
      simp only [startingOver, Bool.and_eq_true] at hs; exact hs.1.2
    refine KeepsScan.keepsRanges ?_
      (Keeps.load ((((keeps_setValves s _).trans (keeps_arbiterSurvey _)).trans (keeps_setDose _ _)).trans
        (keeps_enterRecovering _))) fun _ => .inr hscan
    refine (((keepsScan_setValves s _).trans (keepsScan_arbiterSurvey _)).trans (keepsScan_setDose fun h => ?_)).trans
      (keepsScan_enterRecovering _)
    exact h
  · exact .refl s

/-- What the blocks after the scanner do at a second tick is nothing to the cycle in STARTING. -/
theorem keepsRanges_secondWork (s : State) : KeepsRanges s (secondWork s) := by
  have hscanner : KeepsRanges s (scannerSecond s) := ⟨fun h => h.scannerSecond, fun h => { h with }⟩
  refine hscanner.trans ?_
  refine KeepsScan.keepsRanges
    (((keepsScan_cycleSecond _).trans (keepsScan_tryContest _)).trans (keepsScan_dosingSecond _))
    (((keeps_cycleSecond _).trans (keeps_tryContest _)).trans (keeps_dosingSecond _)).load fun hst => .inl ?_
  show (dosingSecond (tryContest (cycleSecond (scannerSecond s)))).cycle.state = _
  rw [dosingSecond_cycle, cycleSecond_not_filtering (by rw [hst]; rfl),
    tryContest_eq_self (by rw [hst]; exact nofun)]
  exact hst

theorem keepsRanges_secondAt {happens : Bool} {s t : State} (he : secondAt happens s = .next t) : KeepsRanges s t := by
  rcases secondAt_cases happens s with h | h <;> rw [h] at he
  · exact keepsRanges_event (keepsRanges_secondWork s) he
  · cases he; exact .refl s

theorem keepsRanges_takeConversion (ch : ChannelId) (count : BitVec 12) (s : State) :
    KeepsRanges s (takeConversion ch count s) := by
  refine ⟨fun h => h.takeConversion ch count, fun h => ?_⟩
  cases hd : (s.scan.channels.get ch).due with
  | false => rw [takeConversion_off_its_tick count hd]; exact { h with }
  | true => rw [takeConversion_due hd]; exact { h with }

theorem keepsRanges_channelEvent (v : ValveId) (x : Valve × Report) (s : State) : KeepsRanges s (channelEvent v x s) :=
  (keepsScan_channelEvent v x s).keepsRanges (keeps_channelEvent v x s).load fun h =>
    .inl (channelEvent_of_starting h v x)

theorem keepsRanges_takeSwitch (v : ValveId) (p : Position) (level : Bool) (s : State) :
    KeepsRanges s (takeSwitch v p level s) := by
  unfold takeSwitch; simp only
  split
  · exact keepsRanges_setValves s _
  · split
    · exact keepsRanges_setValves s _
    · exact keepsRanges_channelEvent _ _ s

theorem keepsRanges_cutShort {s : State} (hw : s.cycle.state.washStep = true) (o : WashOutcome) :
    KeepsRanges s (cutShort o s) :=
  (keepsScan_cutShort o s).keepsRanges_of_ne (keeps_cutShort o s).load fun h => by rw [h] at hw; cases hw

theorem keepsRanges_endContestUncounted (s : State) : KeepsRanges s (endContestUncounted s) :=
  (keepsScan_endContestUncounted s).keepsRanges_of_idle (keeps_endContestUncounted s).load
    endContestUncounted_of_starting

theorem keepsRanges_operatorWash (s : State) : KeepsRanges s (operatorWash s) :=
  (keepsScan_operatorWash s).keepsRanges_of_idle (keeps_operatorWash s).load operatorWash_of_starting

theorem Dosing.feedback_duplicateReadings (d : Dosing) : d.feedback.duplicateReadings = d.duplicateReadings := by
  unfold Dosing.feedback; split <;> rfl

theorem keepsRanges_risingEdge (i : DiscreteInput) (s : State) : KeepsRanges s (risingEdge i s) := by
  cases i with
  | manualWash =>
    simp only [risingEdge, pressManualWash]; split
    · exact .refl s
    · exact keepsRanges_operatorWash s
  | inhibitKey =>
    simp only [risingEdge, keyAsserts]; split
    · exact .refl s
    · exact keepsRanges_endContestUncounted s
  | tankLow =>
    simp only [risingEdge, tankRunsLow]; split
    · next hw => exact keepsRanges_cutShort hw _
    · exact keepsRanges_endContestUncounted s
  | flowOk => exact .refl s
  | doseFb => exact keepsRanges_setDose fun h => by rw [Dosing.feedback_duplicateReadings]; exact h

theorem keepsRanges_takeInput (i : DiscreteInput) (level : Bool) (s : State) :
    KeepsRanges s (takeInput i level s) := by
  unfold takeInput; simp only
  split
  · exact keepsRanges_setInputs s _
  · split
    · exact (keepsRanges_setInputs s _).trans (keepsRanges_risingEdge i _)
    · exact keepsRanges_setInputs s _

/-- The end of a step's time, as the next step or RETURNING takes it. -/
theorem keepsRanges_of_stepDone {s : State} {step : CycleState} {seconds : Nat} {effect : State → State}
    (hw : step.washStep = true) (hk : Keeps s (effect s)) (h : KeepsScan s (effect s)) :
    KeepsRanges s (whenDue (stepDone step seconds s) effect s) :=
  keepsRanges_whenDue fun hd => h.keepsRanges_of_ne hk.load fun h0 => by
    obtain ⟨hs, -⟩ := (stepDone_iff _ _ _).1 hd
    rw [← hs, h0] at hw; cases hw

theorem keepsRanges_endBackwash {s : State} (hs : s.cycle.state = .backwash) (o : WashOutcome) :
    KeepsRanges s (endBackwash o s) :=
  (keepsScan_endBackwash o s).keepsRanges_of_ne (keeps_endBackwash o s).load (by rw [hs]; exact nofun)

theorem keepsRanges_backwashOver (s : State) : KeepsRanges s (backwashOver s) := by
  unfold backwashOver; split
  · next hc => exact keepsRanges_endBackwash (backwashClear_state hc) _
  · exact keepsRanges_whenDue fun hd => keepsRanges_endBackwash ((stepDone_iff _ _ _).1 hd).1 _

/-! ### What arrives -/

theorem keepsRanges_changeEntry (p : Nat) (e : Option PeerEntry) (b : Bool) (s : State) :
    KeepsRanges s (changeEntry p e b s) := by
  have hput : KeepsRanges s (s.setPeers { s.peers with entries := storeEntry p e s.peers.entries }) :=
    keepsRanges_setPeers id id
  unfold changeEntry; simp only
  split
  · exact hput
  · exact hput.trans ((keepsScan_changeReport _ _).keepsRanges_of_idle (keeps_changeReport _ _).load
      fun h => changeReport_of_starting h _)

theorem keepsRanges_lapseStatus (p : Nat) (s : State) : KeepsRanges s (lapseStatus p s) := by
  unfold lapseStatus; split
  · split
    · refine .trans ?_ (keepsRanges_changeEntry _ _ _ _)
      exact keepsRanges_setPeers id fun _ => satInc_le _
    · exact .refl s
  · exact .refl s

theorem keepsRanges_lapseIntent (p : Nat) (s : State) : KeepsRanges s (lapseIntent p s) := by
  unfold lapseIntent; split
  · split
    · exact keepsRanges_changeEntry _ _ _ s
    · exact .refl s
  · exact .refl s

theorem keepsRanges_lapseHold (p : Nat) (s : State) : KeepsRanges s (lapseHold p s) := by
  unfold lapseHold; split
  · split
    · refine .trans ?_ (keepsRanges_changeEntry _ _ _ _)
      exact keepsRanges_setPeers (fun _ => satInc_le _) id
    · exact .refl s
  · exact .refl s

theorem keepsRanges_formatError (s : State) : KeepsRanges s (formatError s) :=
  keepsRanges_setLink fun h => h.countFormatError

theorem keepsRanges_receiveClaim (p g : Nat) (data : List Byte) (s : State) :
    KeepsRanges s (receiveClaim p g data s) := by
  unfold receiveClaim; split
  · exact keepsRanges_formatError s
  · split
    · split
      · exact keepsRanges_formatError s
      · exact keepsRanges_changeEntry _ _ _ s
    · split
      · exact keepsRanges_formatError s
      · exact keepsRanges_changeEntry _ _ _ s
    · split
      · exact keepsRanges_formatError s
      · exact keepsRanges_changeEntry _ _ _ s
    · exact keepsRanges_formatError s

/-- A READING that is ignored is counted by saturation (R112, R113). -/
theorem Dosing.takeReading_duplicateReadings (d : Dosing) (holder : Bool) (p f ph : Nat) (a : AnalyserState)
    (h : d.duplicateReadings ≤ 255) : (d.takeReading holder p f ph a).duplicateReadings ≤ 255 := by
  unfold Dosing.takeReading
  split
  · exact satInc_le _
  · split
    · exact h
    · exact satInc_le _

theorem keepsRanges_receiveReading (p g : Nat) (data : List Byte) (s : State) :
    KeepsRanges s (receiveReading p g data s) := by
  have hpeer : ∀ u : State, KeepsRanges u (peerReading p g u) := by
    intro u
    unfold peerReading; split
    · exact .refl u
    · exact keepsRanges_changeEntry _ _ _ u
  unfold receiveReading; split
  · exact keepsRanges_formatError s
  · split
    · exact keepsRanges_formatError s
    · exact .trans (keepsRanges_setDose fun h => Dosing.takeReading_duplicateReadings _ _ _ _ _ _ h) (hpeer _)

theorem keepsRanges_receiveStatus (p g : Nat) (data : List Byte) (s : State) :
    KeepsRanges s (receiveStatus p g data s) := by
  unfold receiveStatus; split
  · exact keepsRanges_formatError s
  · split
    · exact keepsRanges_formatError s
    · exact keepsRanges_changeEntry _ _ _ s

/-- No operation that a request carries out reaches the loader. -/
theorem carryOut_load (code : RequestCode) (s : State) : (carryOut code s).load = s.load := by
  cases code with
  | washNow => exact (keeps_operatorWash s).load
  | abandonWash =>
    have hend : ∀ u : State, (enterState .inService (clearDue u)).load = u.load := fun u =>
      ((keeps_clearDue u).trans (keeps_enterState _ _)).load
    simp only [carryOut, abandonWash]; split
    · exact (keeps_cutShort _ s).load
    · split
      · exact (hend _).trans (keeps_withdraw s).load
      · exact hend s
  | inhibitSet =>
    simp only [carryOut, setInhibit]; split
    · rfl
    · exact (keeps_endContestUncounted _).load
  | isolate => exact ((keeps_clearDue s).trans (keeps_enterCommanding _ _ _)).load
  | returnToService => exact (keeps_enterRecovering s).load
  | inhibitClear | doseReset | readCounters | readWashRecord | clearCounters | restart | clearResetCause => rfl

theorem keepsRanges_takeRequest {s : State} (hst : s.cycle.state ≠ .starting) (panel : Nat) (code : RequestCode)
    (arg : Nat) : KeepsRanges s (takeRequest panel code arg s) := by
  unfold takeRequest; simp only
  split
  · exact keepsRanges_resetStation _ s
  · exact ((keepsScan_carryOut code s).keepsRanges_of_ne (carryOut_load code s) hst).trans (keepsRanges_offer _ _)

/-- No request is taken in STARTING (R144). -/
theorem keepsRanges_handleRequest (panel code arg : Nat) (s : State) :
    KeepsRanges s (handleRequest panel code arg s) := by
  unfold handleRequest; split
  · exact .refl s
  · next hst =>
    split
    · exact keepsRanges_setReq fun _ => satInc_le _
    · split
      · exact keepsRanges_offer _ s
      · split
        · exact keepsRanges_takeRequest hst _ _ _
        all_goals exact keepsRanges_offer _ s

/-- A frame the link hands on, by its kind (R130). -/
theorem keepsRanges_judgeFrame (kind g p : Nat) (data : List Byte) (s : State) :
    KeepsRanges s (judgeFrame kind g p data s) := by
  unfold judgeFrame
  split
  · exact .refl s
  split
  · exact keepsRanges_setPeers id id
  split
  · exact keepsRanges_receiveClaim _ _ _ s
  split
  · split
    · exact keepsRanges_receiveReading _ _ _ s
    · exact .refl s
  split
  · exact keepsRanges_receiveStatus _ _ _ s
  split
  · unfold receiveRequest; split
    · exact keepsRanges_formatError s
    · exact keepsRanges_handleRequest _ _ _ s
  · exact .refl s

theorem keepsRanges_receive (f : RxFrame) (s : State) : KeepsRanges s (receive f s) := by
  have hheard : KeepsRanges s (s.setLink s.link.afterArrival) := keepsRanges_setLink fun h => h.afterArrival
  unfold receive; simp only
  split
  · exact hheard
  · exact hheard.trans (keepsRanges_judgeFrame _ _ _ _ _)

/-! ### The link and the arbiter -/

theorem keepsRanges_failAttempt (s : State) : KeepsRanges s (failAttempt s) := by
  have hfail : KeepsRanges s (s.setLink s.link.fail) := keepsRanges_setLink fun h => h.fail
  unfold failAttempt; simp only
  split
  · split
    · exact hfail.trans (keepsRanges_resetStation _ _)
    · exact hfail.trans ((keepsScan_linkOffReport _).keepsRanges_of_idle (keeps_linkOffReport _).load
        linkOffReport_of_starting)
  · exact hfail

theorem keepsRanges_signalError (s : State) : KeepsRanges s (signalError s) := by
  unfold signalError; split
  · exact keepsRanges_setLink fun h => h.countSignalError
  · exact keepsRanges_failAttempt s
  · exact keepsRanges_failAttempt s

theorem keepsRanges_reportCompletion (kind : TxKind) (s : State) : KeepsRanges s (reportCompletion kind s) := by
  cases kind with
  | claim number =>
    simp only [reportCompletion, windowStarts]; split
    · split
      · exact keepsRanges_setArb id id
      · exact .refl s
    all_goals exact .refl s
  | answer mark =>
    simp only [reportCompletion]; split
    · exact keepsRanges_resetStation _ s
    · exact .refl s
  | reading | status => exact .refl s

theorem keepsRanges_completeTx (s : State) : KeepsRanges s (completeTx s) := by
  unfold completeTx; split
  · exact .refl s
  · exact .trans (keepsRanges_setLink fun h => h.complete) (keepsRanges_reportCompletion _ _)

theorem keepsRanges_windowExpires (s : State) : KeepsRanges s (windowExpires s) := by
  unfold windowExpires; split
  · split
    · next hc =>
      have hs : s.cycle.state = .contest := by simp only [Bool.and_eq_true, decide_eq_true_eq] at hc; exact hc.1.1
      exact (keepsScan_winContest _ s).keepsRanges_of_ne (keeps_winContest _ s).load (by rw [hs]; exact nofun)
    · exact .refl s
  all_goals exact .refl s

theorem keepsRanges_refreshHold (s : State) : KeepsRanges s (refreshHold s) := by
  unfold refreshHold; split
  · split
    · refine .trans ?_ (keepsRanges_offer _ _)
      exact keepsRanges_setArb id id
    · exact .refl s
  all_goals exact .refl s

theorem Dosing.miss_duplicateReadings (d : Dosing) : d.miss.duplicateReadings = d.duplicateReadings := by
  unfold Dosing.miss; simp only; split <;> rfl

/-! ### The step -/

/-- Every command keeps the ranges. -/
theorem keepsRanges_exec {c : Instr} {s t : State} (he : exec c s = .next t) : KeepsRanges s t := by
  cases c with
  | powerReset straps =>
    cases he
    exact ((keepsRanges_setPins s _).trans (keepsRanges_setSupplyOk _ true)).trans (keepsRanges_resetStation _ _)
  | supplyFallsBelowOperatingRange =>
    cases he; exact (keepsRanges_setSupplyOk s false).trans (keepsRanges_resetStation _ _)
  | lineReset straps =>
    simp only [exec, execLineReset] at he; cases he
    split
    · exact (keepsRanges_setPins s _).trans (keepsRanges_resetStation _ _)
    · exact .refl s
  | configurationLoadSettles a b r block => exact keepsRanges_event (keepsRanges_settleLoad _ _ s) he
  | startingEnd => exact keepsRanges_event (keepsRanges_endStarting s) he
  | secondTick => exact keepsRanges_event (keepsRanges_secondWork s) he
  | loadingHoldReached | breakthroughHoldReached | waitMinute | readingPeriod => exact keepsRanges_secondAt he
  | conversion ch count => exact keepsRanges_event (keepsRanges_takeConversion ch count s) he
  | clearHoldReached =>
    exact keepsRanges_event (keepsRanges_whenDue fun hd => keepsRanges_endBackwash (backwashClear_state hd) _) he
  | drainDownEnd =>
    exact keepsRanges_event
      (keepsRanges_of_stepDone (effect := endDrainDown) rfl (keeps_enterStep _ s) (keepsScan_enterStep _ s)) he
  | airScourEnd =>
    exact keepsRanges_event (keepsRanges_of_stepDone rfl (keeps_enterStep _ s) (keepsScan_enterStep _ s)) he
  | backwashEnd => exact keepsRanges_event (keepsRanges_backwashOver s) he
  | settleEnd =>
    exact keepsRanges_event (keepsRanges_of_stepDone rfl (keeps_enterStep _ s) (keepsScan_enterStep _ s)) he
  | rinseEnd =>
    exact keepsRanges_event (keepsRanges_of_stepDone rfl (keeps_enterReturning s) (keepsScan_enterReturning s)) he
  | limitSwitchChange v p level => exact keepsRanges_event (keepsRanges_takeSwitch v p level s) he
  | reversalPauseEnd v => exact keepsRanges_event (keepsRanges_whenDue fun _ => keepsRanges_channelEvent _ _ s) he
  | travelTimeout v => exact keepsRanges_event (keepsRanges_whenDue fun _ => keepsRanges_channelEvent _ _ s) he
  | manualWashEdge | inhibitKeyChange _ | tankLowAssert | doseFbEdge | debouncedInputChange _ _ =>
    exact keepsRanges_event (keepsRanges_takeInput _ _ s) he
  | claimIntentArrival _ _ _ | claimHoldArrival _ _ _ | claimReleaseArrival _ _ _ | statusArrival _ _ _
  | readingArrival _ _ _ | answerArrival _ | washNow _ _ _ _ | abandonWash _ _ _ _ | inhibitSet _ _ _ _
  | inhibitClear _ _ _ _ | isolate _ _ _ _ | returnToService _ _ _ _ | doseReset _ _ _ _ | readCounters _ _ _ _
  | clearCounters _ _ _ _ | readWashRecord _ _ _ _ | restart _ _ _ _ | clearResetCause _ _ _ _
  | unknownRequest _ _ _ _ _ => exact keepsRanges_event (keepsRanges_receive _ s) he
  | rxSignalError => exact keepsRanges_event (keepsRanges_signalError s) he
  | statusLapse p => exact keepsRanges_event (keepsRanges_lapseStatus _ s) he
  | intentLapse p => exact keepsRanges_event (keepsRanges_lapseIntent _ s) he
  | holdLapse p => exact keepsRanges_event (keepsRanges_lapseHold _ s) he
  | readingStale | stroke | pulseEnd =>
    refine keepsRanges_event (keepsRanges_whenDue fun _ => ?_) he
    exact keepsRanges_setDose id
  | contestWindowExpiry => exact keepsRanges_event (keepsRanges_windowExpires s) he
  | backoffEnd =>
    refine keepsRanges_event (keepsRanges_whenDue fun _ => ?_) he
    exact keepsRanges_setArb id id
  | holdRefresh => exact keepsRanges_event (keepsRanges_refreshHold s) he
  | txAttemptStart =>
    exact keepsRanges_event (body := fun s => s.setLink s.link.startAttempt)
      (keepsRanges_setLink fun h => h.startAttempt) he
  | lossOfTheMedium =>
    exact keepsRanges_event (body := fun s => s.setLink s.link.loseMedium)
      (keepsRanges_setLink fun h => h.loseMedium) he
  | txFailure => exact keepsRanges_event (keepsRanges_whenDue fun _ => keepsRanges_failAttempt s) he
  | txCompletion => exact keepsRanges_event (keepsRanges_completeTx s) he
  | offPeriodEnd => exact keepsRanges_event (keepsRanges_whenDue fun _ => keepsRanges_setLink fun h => h.endOff) he
  | connectedLapse =>
    refine keepsRanges_event (keepsRanges_whenDue fun _ => ?_) he
    exact keepsRanges_setLink fun h => { h with }
  | feedbackMiss =>
    refine keepsRanges_event (keepsRanges_whenDue fun _ => keepsRanges_setDose fun h => ?_) he
    rw [Dosing.miss_duplicateReadings]; exact h

/-- A tick counts timers, and no counter. -/
theorem countersOk_tick {s : State} (h : CountersOk s) : CountersOk (tick s) := by
  have hdose : ∀ (d : Dosing) (late : Bool), (d.pacerTick late).duplicateReadings = d.duplicateReadings := by
    intro d late
    unfold Dosing.pacerTick Dosing.countPacer
    split
    · rfl
    · split <;> rfl
  unfold tick; split
  · exact { h with
            link := h.link.countTick,
            duplicateReadings := by simp only [countAll, hdose]; exact h.duplicateReadings }
  · exact h

/-- Settles O60: both laws are inductive by themselves. -/
theorem everyStepKeepsTheRanges : Obligations.EveryStepKeepsTheRanges := by
  intro s t hst
  have hkeeps : KeepsRanges s t := by
    unfold step at hst
    split at hst
    · cases hst; exact ⟨scanOk_tick, countersOk_tick⟩
    · exact (keepsRanges_setPending s _).trans (keepsRanges_exec hst)
  simp only [scanLaw_iff, counterLaw_iff]
  exact ⟨hkeeps.scan, hkeeps.counters⟩

end Sys2Proof.Machine
end

section
/-! SUPPORT. The peer table law taken apart: an entry in its ranges, the table as a whole, and what each operation of
the peer table leaves of them (R69 to R79). -/

namespace Sys2Proof.Machine

/-! ### An entry in its ranges -/

/-- An entry in its ranges and not under the own number (R69, R70), be it one that R79 removes or not. -/
structure PeerEntry.InRange (own : Nat) (e : PeerEntry) : Prop where
  station  : e.station < 32
  foreign  : e.station ≠ own
  group    : e.group < 8
  claim    : e.claim.wf = true
  claimAge : e.claimAge ≤ 60000
  status   : ∀ st, e.status = some st → st.code ≠ .starting ∧ st.age ≤ 400

theorem PeerEntry.wf_iff (own : Nat) (e : PeerEntry) :
    e.wf own = true ↔ e.InRange own ∧ e.empty = false := by
  unfold PeerEntry.wf
  simp only [Bool.and_eq_true, decide_eq_true_eq, bne_iff_ne, Bool.not_eq_true']
  constructor
  · rintro ⟨⟨⟨⟨⟨⟨h1, h2⟩, h3⟩, h4⟩, h5⟩, h6⟩, h7⟩
    exact ⟨⟨h1, h2, h3, h4, h5, fun st hst => by simpa [hst] using h7⟩, h6⟩
  · rintro ⟨⟨h1, h2, h3, h4, h5, h7⟩, h6⟩
    refine ⟨⟨⟨⟨⟨⟨h1, h2⟩, h3⟩, h4⟩, h5⟩, h6⟩, ?_⟩
    cases hst : e.status with
    | none => rfl
    | some st => simpa using h7 st hst

theorem PeerEntry.empty_iff (e : PeerEntry) : e.empty = true ↔ e.status = none ∧ e.claim = .none := by
  simp [PeerEntry.empty]

/-- A byte of a frame is 0-255. -/
theorem byteAt_le (data : List Byte) (i : Nat) : byteAt data i ≤ 255 :=
  Nat.lt_succ_iff.1 (data.getD i 0).isLt

namespace PeerEntry.InRange

variable {own : Nat} {e : PeerEntry}

theorem regroup (h : e.InRange own) {g : Nat} (hg : g < 8) : ({ e with group := g } : PeerEntry).InRange own :=
  { h with group := hg }

theorem takeStatus (h : e.InRange own) {code : CycleState} (hc : code ≠ .starting) :
    (e.takeStatus code).InRange own :=
  { h with status := by rintro st ⟨⟩; exact ⟨hc, Nat.zero_le _⟩ }

theorem takeClaim (h : e.InRange own) {claim : PeerClaim} (hc : claim.wf = true) :
    ({ e with claim := claim, claimAge := 0 } : PeerEntry).InRange own :=
  { h with claim := hc, claimAge := Nat.zero_le _ }

theorem clearClaim (h : e.InRange own) : e.clearClaim.InRange own := h.takeClaim rfl

theorem clearStatus (h : e.InRange own) : e.clearStatus.InRange own := { h with status := nofun }

/-- A tick's count stops at the top of each age (R73, R77, R78). -/
theorem countTick (h : e.InRange own) : e.countTick.InRange own :=
  { h with
    claimAge := by
      show (if e.claim = .none then e.claimAge else incTo 60000 e.claimAge) ≤ 60000
      split
      · exact h.claimAge
      · exact incTo_le _ _
    status := by
      intro st hst
      obtain ⟨st', hst', rfl⟩ := Option.map_eq_some_iff.1 hst
      exact ⟨(h.status st' hst').1, incTo_le _ _⟩ }

/-- The removal check leaves no entry that it removes (R79). -/
theorem wf_of_kept (h : e.InRange own) {x : PeerEntry} (hx : keptEntry e = some x) : x.wf own = true := by
  unfold keptEntry at hx
  split at hx
  · cases hx
  · next he => cases hx; exact (PeerEntry.wf_iff own e).2 ⟨h, by simpa using he⟩

theorem wf_of_claim (h : e.InRange own) (hc : e.claim ≠ .none) : e.wf own = true :=
  (PeerEntry.wf_iff own e).2 ⟨h, by simp [PeerEntry.empty, hc]⟩

theorem wf_of_status (h : e.InRange own) {st : PeerStatus} (hs : e.status = some st) : e.wf own = true :=
  (PeerEntry.wf_iff own e).2 ⟨h, by simp [PeerEntry.empty, hs]⟩

end PeerEntry.InRange

theorem PeerEntry.countTick_empty (e : PeerEntry) : e.countTick.empty = e.empty := by
  cases e with
  | mk st g status claim age => cases status <;> rfl

/-- What a tick makes of an entry: its ages count (R73, R77, R78). -/
theorem PeerEntry.wf_countTick {own : Nat} {e : PeerEntry} (h : e.wf own = true) : e.countTick.wf own = true := by
  rw [PeerEntry.wf_iff] at h ⊢
  exact ⟨h.1.countTick, e.countTick_empty.trans h.2⟩

/-- Another group is nothing to R79. -/
theorem PeerEntry.wf_regroup {own : Nat} {e : PeerEntry} (h : e.wf own = true) {g : Nat} (hg : g < 8) :
    ({ e with group := g } : PeerEntry).wf own = true := by
  rw [PeerEntry.wf_iff] at h ⊢
  exact ⟨h.1.regroup hg, h.2⟩

/-! ### The table -/

/-- The table of a station with the own number `own` (R69, R70, R79). -/
structure TableOk (own : Nat) (es : List PeerEntry) : Prop where
  own_lt  : own < 32
  rising  : Machine.rising es = true
  entries : ∀ e ∈ es, e.wf own = true

/-- The peer table law, taken apart. -/
def PeerOk (s : State) : Prop := TableOk s.load.station s.peers.entries

theorem peerLaw_iff (s : State) : peerLaw s = true ↔ PeerOk s := by
  simp only [peerLaw, Bool.and_eq_true, decide_eq_true_eq, List.all_eq_true]
  exact ⟨fun ⟨⟨h1, h2⟩, h3⟩ => ⟨h1, h2, h3⟩, fun h => ⟨⟨h.own_lt, h.rising⟩, h.entries⟩⟩

theorem TableOk.nil {own : Nat} (h : own < 32) : TableOk own [] := ⟨h, rfl, nofun⟩

theorem TableOk.inRange {own p : Nat} {es : List PeerEntry} {e : PeerEntry} (h : TableOk own es)
    (he : findEntry p es = some e) : e.InRange own :=
  ((PeerEntry.wf_iff own e).1 (h.entries e (findEntry_mem he))).1

/-- What an event makes of an entry is stored in its place, or the entry is dropped (R69, R79). -/
theorem TableOk.storeEntry {own : Nat} {es : List PeerEntry} (h : TableOk own es) (p : Nat) {new : Option PeerEntry}
    (hnew : ∀ e, new = some e → e.wf own = true) : TableOk own (storeEntry p new es) := by
  cases new with
  | none => exact ⟨h.own_lt, rising_dropEntry h.rising, all_dropEntry h.entries⟩
  | some e => exact ⟨h.own_lt, rising_putEntry h.rising, all_putEntry (hnew e rfl) h.entries⟩

/-- The entry on which an arrival from a peer is taken, before it is (R71). -/
theorem TableOk.entryAt {own p g : Nat} {es : List PeerEntry} (h : TableOk own es) (hp : p < 32) (hpo : p ≠ own)
    (hg : g < 8) : (entryAt p g es).InRange own := by
  unfold Machine.entryAt; split
  · next e he => exact (h.inRange he).regroup hg
  · exact ⟨hp, hpo, hg, rfl, Nat.zero_le _, nofun⟩

theorem rising_map {f : PeerEntry → PeerEntry} (hf : ∀ e, (f e).station = e.station) {es : List PeerEntry}
    (h : rising es = true) : rising (es.map f) = true := by
  induction es with
  | nil => rfl
  | cons e rest ih =>
    obtain ⟨hlt, hr⟩ := (rising_cons_iff e rest).1 h
    rw [List.map_cons, rising_cons_iff]
    refine ⟨fun x hx => ?_, ih hr⟩
    obtain ⟨y, hy, rfl⟩ := List.mem_map.1 hx
    rw [hf, hf]; exact hlt y hy

theorem TableOk.countTick {own : Nat} {es : List PeerEntry} (h : TableOk own es) :
    TableOk own (es.map PeerEntry.countTick) := by
  refine ⟨h.own_lt, rising_map PeerEntry.countTick_station h.rising, fun x hx => ?_⟩
  obtain ⟨e, he, rfl⟩ := List.mem_map.1 hx
  exact PeerEntry.wf_countTick (h.entries e he)

end Sys2Proof.Machine
end

section
/-! SUPPORT. Every command and every tick keeps the peer table law: what arrives and what lapses leaves an entry in its
ranges or none, and nothing else but a reset touches the table. -/

namespace Sys2Proof.Machine

/-! ### The law across the parts of an event -/

/-- What leaves the peer table and the loader leaves the law. -/
theorem PeerOk.of_keeps {s t : State} (h : PeerOk s) (k : Keeps s t) : PeerOk t := by
  unfold PeerOk; rw [k.peers, k.load]; exact h

/-! A part of the state that is neither the table nor the loader may change. -/

theorem PeerOk.setPins {s : State} (h : PeerOk s) (x : Pins) : PeerOk (s.setPins x) := h

theorem PeerOk.setInputs {s : State} (h : PeerOk s) (x : Inputs) : PeerOk (s.setInputs x) := h

theorem PeerOk.setDose {s : State} (h : PeerOk s) (x : Dosing) : PeerOk (s.setDose x) := h

theorem PeerOk.setLink {s : State} (h : PeerOk s) (x : Link) : PeerOk (s.setLink x) := h

theorem PeerOk.setReq {s : State} (h : PeerOk s) (x : Requests) : PeerOk (s.setReq x) := h

theorem PeerOk.setPending {s : State} (h : PeerOk s) (x : List Instr) : PeerOk (s.setPending x) := h

/-- The counters and the duplicate flag of the table are no part of the law. -/
theorem PeerOk.setPeers {s : State} (h : PeerOk s) {x : PeerTable} (hx : x.entries = s.peers.entries) :
    PeerOk (s.setPeers x) := by
  unfold PeerOk; rw [State.setPeers_peers, hx]; exact h

theorem peerOk_event {b : Bool} {body : State → State} {s t : State} (h : PeerOk s) (hb : PeerOk (body s))
    (he : event b body s = .next t) : PeerOk t := by
  rcases event_cases he with ⟨-, rfl⟩ | ⟨-, rfl⟩
  · exact h
  · exact hb.of_keeps (keeps_finish _ _ _)

theorem peerOk_whenDue {due : Bool} {effect : State → State} {s : State} (h : PeerOk s) (he : PeerOk (effect s)) :
    PeerOk (whenDue due effect s) := by
  unfold whenDue; split
  · exact he
  · exact h

/-- A reset empties the table and reads the straps, whose station number is 0-31 (R69, R160). -/
theorem peerOk_resetStation (k : ResetKind) (s : State) : PeerOk (resetStation k s) :=
  TableOk.nil (Nat.mod_lt _ (by decide))

/-- The load leaves the straps as they were read (R160, R162). -/
theorem peerOk_settleLoad {s : State} (h : PeerOk s) (acks : Bool) (block : List Byte) :
    PeerOk (settleLoad acks block s) := by
  unfold settleLoad; split
  · exact h
  · exact h

theorem peerOk_endStarting {s : State} (h : PeerOk s) : PeerOk (endStarting s) := by
  unfold endStarting; split
  · exact h.of_keeps
      ((((keeps_setValves s _).trans (keeps_arbiterSurvey _)).trans (keeps_setDose _ _)).trans
        (keeps_enterRecovering _))
  · exact h

theorem peerOk_secondAt {happens : Bool} {s t : State} (h : PeerOk s) (he : secondAt happens s = .next t) :
    PeerOk t := by
  rcases secondAt_cases happens s with hc | hc <;> rw [hc] at he
  · exact peerOk_event h (h.of_keeps (keeps_secondWork s)) he
  · cases he; exact h

theorem peerOk_takeConversion {s : State} (h : PeerOk s) (ch : ChannelId) (count : BitVec 12) :
    PeerOk (takeConversion ch count s) := by
  cases hd : (s.scan.channels.get ch).due with
  | false => rw [takeConversion_off_its_tick count hd]; exact h
  | true => rw [takeConversion_due hd]; exact h

theorem peerOk_takeSwitch {s : State} (h : PeerOk s) (v : ValveId) (p : Position) (level : Bool) :
    PeerOk (takeSwitch v p level s) := by
  unfold takeSwitch; simp only
  split
  · exact h.of_keeps (keeps_setValves s _)
  · split
    · exact h.of_keeps (keeps_setValves s _)
    · exact h.of_keeps (keeps_channelEvent _ _ s)

theorem keeps_risingEdge (i : DiscreteInput) (s : State) : Keeps s (risingEdge i s) := by
  cases i with
  | manualWash =>
    simp only [risingEdge, pressManualWash]; split
    · exact .refl s
    · exact keeps_operatorWash s
  | inhibitKey =>
    simp only [risingEdge, keyAsserts]; split
    · exact .refl s
    · exact keeps_endContestUncounted s
  | tankLow =>
    simp only [risingEdge, tankRunsLow]; split
    · exact keeps_cutShort _ s
    · exact keeps_endContestUncounted s
  | flowOk => exact .refl s
  | doseFb => exact keeps_setDose s _

theorem peerOk_takeInput {s : State} (h : PeerOk s) (i : DiscreteInput) (level : Bool) :
    PeerOk (takeInput i level s) := by
  unfold takeInput; simp only
  split
  · exact h.setInputs _
  · split
    · exact (h.setInputs _).of_keeps (keeps_risingEdge i _)
    · exact h.setInputs _

theorem peerOk_backwashOver {s : State} (h : PeerOk s) : PeerOk (backwashOver s) := by
  unfold backwashOver; split
  · exact h.of_keeps (keeps_endBackwash _ s)
  · exact peerOk_whenDue h (h.of_keeps (keeps_endBackwash _ s))

/-! ### What arrives and what lapses -/

/-- A change of the table stores what it makes of the entry, whatever its report does (R79, R81). -/
theorem peerOk_changeEntry {s : State} (h : PeerOk s) (p : Nat) {new : Option PeerEntry} (intoHold : Bool)
    (hnew : ∀ e, new = some e → e.wf s.load.station = true) : PeerOk (changeEntry p new intoHold s) := by
  have hput : PeerOk (s.setPeers { s.peers with entries := storeEntry p new s.peers.entries }) := h.storeEntry p hnew
  exact hput.of_keeps (changeEntry_peers p new intoHold s)

/-- A CLAIM of a peer: an INTENT and a HOLD carry a flow of 1-255 once the link has judged them (R70, R131). -/
theorem peerOk_receiveClaim {s : State} (h : PeerOk s) {p g : Nat} (hp : p < 32) (hpo : p ≠ s.load.station)
    (hg : g < 8) (data : List Byte) : PeerOk (receiveClaim p g data s) := by
  have hent := TableOk.entryAt h hp hpo hg
  have hflow : ∀ {f : Nat}, f ≠ 0 → f ≤ 255 → 1 ≤ f ∧ f ≤ 255 := fun h0 h1 => ⟨Nat.one_le_iff_ne_zero.2 h0, h1⟩
  unfold receiveClaim; split
  · exact h.setLink _
  · split
    · split
      · exact h.setLink _
      · next h0 =>
        refine peerOk_changeEntry h p false ?_
        rintro e ⟨⟩
        exact (hent.takeClaim (by simp [PeerClaim.wf, byteAt_le, hflow h0])).wf_of_claim nofun
    · split
      · exact h.setLink _
      · next h0 =>
        refine peerOk_changeEntry h p _ ?_
        rintro e ⟨⟩
        exact (hent.takeClaim (by simp [PeerClaim.wf, byteAt_le, hflow h0])).wf_of_claim nofun
    · split
      · exact h.setLink _
      · exact peerOk_changeEntry h p false fun _ hx => hent.clearClaim.wf_of_kept hx
    · exact h.setLink _

theorem peerOk_peerReading {s : State} (h : PeerOk s) (p : Nat) {g : Nat} (hg : g < 8) : PeerOk (peerReading p g s) := by
  unfold peerReading; split
  · exact h
  · next e he =>
    refine peerOk_changeEntry h p false ?_
    rintro x ⟨⟩
    exact PeerEntry.wf_regroup (h.entries e (findEntry_mem he)) hg

theorem peerOk_receiveReading {s : State} (h : PeerOk s) (p : Nat) {g : Nat} (hg : g < 8) (data : List Byte) :
    PeerOk (receiveReading p g data s) := by
  unfold receiveReading; split
  · exact h.setLink _
  · split
    · exact h.setLink _
    · exact peerOk_peerReading (h.setDose _) p hg

theorem peerOk_receiveStatus {s : State} (h : PeerOk s) {p g : Nat} (hp : p < 32) (hpo : p ≠ s.load.station)
    (hg : g < 8) (data : List Byte) : PeerOk (receiveStatus p g data s) := by
  unfold receiveStatus; split
  · exact h.setLink _
  · split
    · exact h.setLink _
    · next code hc =>
      refine peerOk_changeEntry h p false ?_
      rintro e ⟨⟩
      exact ((TableOk.entryAt h hp hpo hg).takeStatus (CycleState.ofCode_ne_starting hc)).wf_of_status rfl

/-- A lapse leaves the entry without the part that lapses, or removes it (R73, R79). -/
theorem peerOk_lapseStatus {s : State} (h : PeerOk s) (p : Nat) : PeerOk (lapseStatus p s) := by
  unfold lapseStatus; split
  · next e he =>
    split
    · exact peerOk_changeEntry (h.setPeers (by rfl)) p false fun _ hx => (TableOk.inRange h he).clearStatus.wf_of_kept hx
    · exact h
  · exact h

theorem peerOk_lapseIntent {s : State} (h : PeerOk s) (p : Nat) : PeerOk (lapseIntent p s) := by
  unfold lapseIntent; split
  · next e he =>
    split
    · exact peerOk_changeEntry h p false fun _ hx => (TableOk.inRange h he).clearClaim.wf_of_kept hx
    · exact h
  · exact h

theorem peerOk_lapseHold {s : State} (h : PeerOk s) (p : Nat) : PeerOk (lapseHold p s) := by
  unfold lapseHold; split
  · next e he =>
    split
    · exact peerOk_changeEntry (h.setPeers (by rfl)) p false fun _ hx => (TableOk.inRange h he).clearClaim.wf_of_kept hx
    · exact h
  · exact h

/-! ### Requests -/

/-- A request can clear the table's counters, and touches nothing else of the table (R150). -/
theorem peerOk_carryOut {s : State} (h : PeerOk s) (code : RequestCode) : PeerOk (carryOut code s) := by
  cases code with
  | washNow => exact h.of_keeps (keeps_operatorWash s)
  | abandonWash =>
    have hend : ∀ u : State, Keeps u (enterState .inService (clearDue u)) := fun u =>
      (keeps_clearDue u).trans (keeps_enterState _ _)
    simp only [carryOut, abandonWash]; split
    · exact h.of_keeps (keeps_cutShort _ s)
    · split
      · exact h.of_keeps ((keeps_withdraw s).trans (hend _))
      · exact h.of_keeps (hend s)
  | inhibitSet =>
    simp only [carryOut, setInhibit]; split
    · exact h.setReq _
    · exact (h.setReq _).of_keeps (keeps_endContestUncounted _)
  | isolate => exact h.of_keeps ((keeps_clearDue s).trans (keeps_enterCommanding _ _ _))
  | returnToService => exact h.of_keeps (keeps_enterRecovering s)
  | inhibitClear | doseReset | readCounters | readWashRecord | clearCounters | restart | clearResetCause => exact h

theorem peerOk_handleRequest {s : State} (h : PeerOk s) (panel code arg : Nat) :
    PeerOk (handleRequest panel code arg s) := by
  have hanswer : ∀ {u : State} (_ : PeerOk u) (o : AnswerOutcome) (n : Nat) (data : List Byte) (mark : Bool),
      PeerOk (offerAnswer panel n o data mark u) := fun hu _ _ _ _ => hu.of_keeps (keeps_offer _ _)
  unfold handleRequest; split
  · exact h
  · split
    · exact h.setReq _
    · split
      · exact hanswer h _ _ _ _
      · split
        · unfold takeRequest; split
          · exact peerOk_resetStation _ s
          · exact hanswer (peerOk_carryOut h _) _ _ _ _
        all_goals exact hanswer h _ _ _ _

/-! ### Every frame -/

/-- A frame the link hands on, by its kind: one of the own number is taken away before the table (R82, R130). -/
theorem peerOk_judgeFrame {s : State} (h : PeerOk s) (kind : Nat) {g p : Nat} (hp : p < 32) (hg : g < 8)
    (data : List Byte) : PeerOk (judgeFrame kind g p data s) := by
  unfold judgeFrame
  split
  · exact h
  split
  · exact h.setPeers rfl
  next hown =>
  have hpeer : kind ≤ 2 → p ≠ s.load.station := by simpa using hown
  split
  · next hk => exact peerOk_receiveClaim h hp (hpeer (by omega)) hg data
  split
  · split
    · exact peerOk_receiveReading h p hg data
    · exact h
  split
  · next hk => exact peerOk_receiveStatus h hp (hpeer (by omega)) hg data
  split
  · unfold receiveRequest; split
    · exact h.setLink _
    · exact peerOk_handleRequest h _ _ _
  · exact h

theorem peerOk_receive {s : State} (h : PeerOk s) (f : RxFrame) : PeerOk (receive f s) := by
  unfold receive; simp only
  split
  · exact h.setLink _
  · exact peerOk_judgeFrame (h.setLink _) _ (Nat.mod_lt _ (by decide)) (Nat.mod_lt _ (by decide)) _

/-! ### The link and the arbiter -/

theorem peerOk_failAttempt {s : State} (h : PeerOk s) : PeerOk (failAttempt s) := by
  unfold failAttempt; simp only
  split
  · split
    · exact peerOk_resetStation _ _
    · exact (h.setLink _).of_keeps (keeps_linkOffReport _)
  · exact h.setLink _

theorem peerOk_signalError {s : State} (h : PeerOk s) : PeerOk (signalError s) := by
  unfold signalError; split
  · exact h.setLink _
  · exact peerOk_failAttempt h
  · exact peerOk_failAttempt h

theorem keeps_windowStarts (number : Option Nat) (s : State) : Keeps s (windowStarts number s) := by
  unfold windowStarts; split
  · split
    · exact keeps_setArb s _
    · exact .refl s
  all_goals exact .refl s

theorem peerOk_completeTx {s : State} (h : PeerOk s) : PeerOk (completeTx s) := by
  unfold completeTx; split
  · exact h
  · unfold reportCompletion; split
    · exact (h.setLink _).of_keeps (keeps_windowStarts _ _)
    · split
      · exact peerOk_resetStation _ _
      · exact h.setLink _
    all_goals exact h.setLink _

theorem keeps_windowExpires (s : State) : Keeps s (windowExpires s) := by
  unfold windowExpires; split
  · split
    · exact keeps_winContest _ s
    · exact .refl s
  all_goals exact .refl s

theorem keeps_refreshHold (s : State) : Keeps s (refreshHold s) := by
  unfold refreshHold; split
  · split
    · exact (keeps_setArb s _).trans (keeps_offer _ _)
    · exact .refl s
  all_goals exact .refl s

/-! ### The step -/

/-- Every command keeps the peer table law. -/
theorem peerOk_exec {c : Instr} {s t : State} (h : PeerOk s) (he : exec c s = .next t) : PeerOk t := by
  cases c with
  | powerReset straps | supplyFallsBelowOperatingRange => cases he; exact peerOk_resetStation _ _
  | lineReset straps =>
    simp only [exec, execLineReset] at he; cases he
    split
    · exact peerOk_resetStation _ _
    · exact h
  | configurationLoadSettles a b r block => exact peerOk_event h (peerOk_settleLoad h _ _) he
  | startingEnd => exact peerOk_event h (peerOk_endStarting h) he
  | secondTick => exact peerOk_event h (h.of_keeps (keeps_secondWork s)) he
  | loadingHoldReached | breakthroughHoldReached | waitMinute | readingPeriod => exact peerOk_secondAt h he
  | conversion ch count => exact peerOk_event h (peerOk_takeConversion h ch count) he
  | clearHoldReached => exact peerOk_event h (peerOk_whenDue h (h.of_keeps (keeps_endBackwash _ s))) he
  | drainDownEnd | airScourEnd | settleEnd =>
    refine peerOk_event h (peerOk_whenDue h ?_) he
    exact h.of_keeps (keeps_enterStep _ s)
  | backwashEnd => exact peerOk_event h (peerOk_backwashOver h) he
  | rinseEnd => exact peerOk_event h (peerOk_whenDue h (h.of_keeps (keeps_enterReturning s))) he
  | limitSwitchChange v p level => exact peerOk_event h (peerOk_takeSwitch h v p level) he
  | reversalPauseEnd v | travelTimeout v =>
    exact peerOk_event h (peerOk_whenDue h (h.of_keeps (keeps_channelEvent _ _ s))) he
  | manualWashEdge | inhibitKeyChange _ | tankLowAssert | doseFbEdge | debouncedInputChange _ _ =>
    exact peerOk_event h (peerOk_takeInput h _ _) he
  | claimIntentArrival _ _ _ | claimHoldArrival _ _ _ | claimReleaseArrival _ _ _ | statusArrival _ _ _
  | readingArrival _ _ _ | answerArrival _ | washNow _ _ _ _ | abandonWash _ _ _ _ | inhibitSet _ _ _ _
  | inhibitClear _ _ _ _ | isolate _ _ _ _ | returnToService _ _ _ _ | doseReset _ _ _ _ | readCounters _ _ _ _
  | clearCounters _ _ _ _ | readWashRecord _ _ _ _ | restart _ _ _ _ | clearResetCause _ _ _ _
  | unknownRequest _ _ _ _ _ => exact peerOk_event h (peerOk_receive h _) he
  | rxSignalError => exact peerOk_event h (peerOk_signalError h) he
  | statusLapse p => exact peerOk_event h (peerOk_lapseStatus h _) he
  | intentLapse p => exact peerOk_event h (peerOk_lapseIntent h _) he
  | holdLapse p => exact peerOk_event h (peerOk_lapseHold h _) he
  | contestWindowExpiry => exact peerOk_event h (h.of_keeps (keeps_windowExpires s)) he
  | holdRefresh => exact peerOk_event h (h.of_keeps (keeps_refreshHold s)) he
  | txFailure => exact peerOk_event h (peerOk_whenDue h (peerOk_failAttempt h)) he
  | txCompletion => exact peerOk_event h (peerOk_completeTx h) he
  | txAttemptStart => exact peerOk_event (body := fun s => s.setLink s.link.startAttempt) h (h.setLink _) he
  | lossOfTheMedium => exact peerOk_event (body := fun s => s.setLink s.link.loseMedium) h (h.setLink _) he
  | readingStale | stroke | pulseEnd | feedbackMiss => exact peerOk_event h (peerOk_whenDue h (h.setDose _)) he
  | backoffEnd => exact peerOk_event h (peerOk_whenDue h (h.of_keeps (keeps_setArb s _))) he
  | offPeriodEnd | connectedLapse =>
    exact peerOk_event h (peerOk_whenDue (effect := fun s => s.setLink _) h (h.setLink _)) he

/-- A tick counts the ages of the entries (R73, R77, R78). -/
theorem peerOk_tick {s : State} (h : PeerOk s) : PeerOk (tick s) := by
  unfold tick; split
  · exact TableOk.countTick h
  · exact h

/-- Settles O54: the peer table law is inductive by itself. -/
theorem everyStepKeepsThePeerTableLaw : Obligations.EveryStepKeepsThePeerTableLaw := by
  intro s t h hst
  rw [peerLaw_iff] at h ⊢
  unfold step at hst
  split at hst
  · cases hst; exact peerOk_tick h
  · exact peerOk_exec (h.setPending _) hst

end Sys2Proof.Machine
end

section
/-! SUPPORT. What an event makes of a peer's entry, as the table and the share arbiter take it (R71 to R81): the entry,
the change report by the cycle state, and what the report leaves of the plant. -/

namespace Sys2Proof.Machine

/-! ### The entry -/

/-- The entry on which an arrival is taken, part by part (R71). -/
theorem entryAt_eq (p g : Nat) (es : List PeerEntry) :
    entryAt p g es =
      { station := p, group := g, status := (findEntry p es).bind PeerEntry.status,
        claim := ((findEntry p es).map PeerEntry.claim).getD .none,
        claimAge := ((findEntry p es).map PeerEntry.claimAge).getD 0 } := by
  unfold entryAt
  cases he : findEntry p es with
  | none => rfl
  | some e => rw [← findEntry_station he]; rfl

@[simp] theorem entryAt_station (p g : Nat) (es : List PeerEntry) : (entryAt p g es).station = p := by rw [entryAt_eq]

/-- A claim that becomes NONE leaves the entry where its status part is present (R76 to R79). -/
theorem keptEntry_clearClaim (e : PeerEntry) :
    keptEntry e.clearClaim = if e.status.isSome then some { e with claim := .none, claimAge := 0 } else none := by
  unfold keptEntry PeerEntry.empty PeerEntry.clearClaim
  cases e.status <;> rfl

/-- A status part that lapses leaves the entry where its claim is not NONE (R73, R79). -/
theorem keptEntry_clearStatus (e : PeerEntry) :
    keptEntry e.clearStatus = if e.claim = .none then none else some { e with status := none } := by
  unfold keptEntry
  by_cases hc : e.claim = .none <;> simp [PeerEntry.empty, PeerEntry.clearStatus, hc]

/-- The removal check is of a station's own entry. -/
theorem station_of_keptEntry {e x : PeerEntry} (h : keptEntry e = some x) : x.station = e.station := by
  unfold keptEntry at h
  split at h
  · cases h
  · cases h; rfl

/-- What an event makes of station p's entry is what is found under p after it (R71, R79). -/
theorem findEntry_storeEntry_same {p : Nat} {new : Option PeerEntry} (hnew : ∀ e, new = some e → e.station = p)
    (es : List PeerEntry) : findEntry p (storeEntry p new es) = new := by
  cases new with
  | none => exact findEntry_dropEntry_same p es
  | some e =>
    have h := findEntry_putEntry_same e es
    rw [hnew e rfl] at h; exact h

/-- No other entry changes. -/
theorem findEntry_storeEntry_other {p q : Nat} {new : Option PeerEntry} (hq : q ≠ p)
    (hnew : ∀ e, new = some e → e.station = p) (es : List PeerEntry) :
    findEntry q (storeEntry p new es) = findEntry q es := by
  cases new with
  | none => exact findEntry_dropEntry_other es hq
  | some e => exact findEntry_putEntry_other e es (by rw [hnew e rfl]; exact hq)

/-- `s` with what an event makes of station p's entry in its table. -/
def withEntry (p : Nat) (new : Option PeerEntry) (s : State) : State :=
  s.setPeers { s.peers with entries := storeEntry p new s.peers.entries }

/-- A change that the arbiter does not read gives no report (R81). -/
theorem changeEntry_unread {p : Nat} {new : Option PeerEntry} {s : State}
    (h : (findEntry p s.peers.entries).map PeerEntry.visible = new.map PeerEntry.visible) (intoHold : Bool) :
    changeEntry p new intoHold s = withEntry p new s := if_pos h

/-- A change that it reads gives one (R81). -/
theorem changeEntry_read {p : Nat} {new : Option PeerEntry} {s : State}
    (h : (findEntry p s.peers.entries).map PeerEntry.visible ≠ new.map PeerEntry.visible) (intoHold : Bool) :
    changeEntry p new intoHold s = changeReport (if intoHold then new else none) (withEntry p new s) := if_neg h

theorem changeEntry_cases (p : Nat) (new : Option PeerEntry) (intoHold : Bool) (s : State) :
    changeEntry p new intoHold s = withEntry p new s
    ∨ changeEntry p new intoHold s = changeReport (if intoHold then new else none) (withEntry p new s) :=
  (Decidable.em _).imp (fun h => changeEntry_unread h intoHold) fun h => changeEntry_read h intoHold

/-! ### The contest lost and the contest entered, field by field -/

/-- A loss: RELEASE(WITHDRAWN), the claim NONE, the back-off, the count, and WAITING (R94, R98). -/
theorem loseContest_eq (s : State) :
    loseContest true s =
      ((s.setLink (withdrawnLink s s.link)).setArb
        { s.arb with
          claim := .none, windowTimer := 0, backoff := 200 + 10 * s.load.station,
          contestsLost := satInc s.arb.contestsLost }).setCycle (cycleIn .waiting s.cycle) := by
  unfold loseContest
  exact enterState_quiet (fun _ => rfl) fun _ => rfl

/-- A contest entered from WAITING: the INTENT at the urgency formed there, numbered, and CONTEST (R8, R92, R98). -/
theorem enterContest_eq {s : State} (h : s.cycle.state = .waiting) :
    enterContest s =
      ((s.setLink (s.link.offer (claimFrame s (some (s.arb.intentNumber + 1))
          [1, byte (formedUrgency s), byte s.cfg.washFlow, 0]))).setArb
        { s.arb with
          claim := .intent (formedUrgency s) .pending, windowTimer := 0,
          intentNumber := s.arb.intentNumber + 1, backoff := 0 }).setCycle (cycleIn .contest s.cycle) := by
  unfold enterContest
  rw [enterState_eq]
  simp only [offerIntent, offer, State.setLink_cycle, State.setArb_cycle, h]
  rfl

/-! ### The change report by the cycle state (R81) -/

/-- In CONTEST the admission test is run again (R94). -/
theorem changeReport_contest {s : State} (h : s.cycle.state = .contest) (hi : s.arb.claim.isIntent = true)
    (e : Option PeerEntry) : changeReport e s = if admission s then s else loseContest true s := by
  simp [changeReport, inContest, h, hi]

/-- In WAITING a contest may be entered (R92). -/
theorem changeReport_waiting {s : State} (h : s.cycle.state = .waiting) (e : Option PeerEntry) :
    changeReport e s = tryContest s := by
  simp [changeReport, inContest, h, CycleState.washStep]

/-- Elsewhere a report does nothing, but for an entry into HOLD in a wash step (R106). -/
theorem changeReport_elsewhere {s : State} (hc : s.cycle.state ≠ .contest) (hw : s.cycle.state ≠ .waiting)
    {e : Option PeerEntry} (he : s.cycle.state.washStep = false ∨ e = none) : changeReport e s = s := by
  have hin : inContest s = false := by simp [inContest, hc]
  unfold changeReport
  rw [hin, if_neg (by decide), tryContest_eq_self hw]
  rcases he with he | rfl
  · simp [he]
  · split <;> rfl

/-! ### What a report leaves of the plant -/

/-- `t` has the scanner, the channels and the dosing unit of `s`. -/
structure KeepsPlant (s t : State) : Prop where
  scan   : t.scan = s.scan
  valves : t.valves = s.valves
  dose   : t.dose = s.dose

theorem KeepsPlant.refl (s : State) : KeepsPlant s s := ⟨rfl, rfl, rfl⟩

theorem KeepsPlant.trans {s t u : State} (h : KeepsPlant s t) (k : KeepsPlant t u) : KeepsPlant s u :=
  ⟨k.scan.trans h.scan, k.valves.trans h.valves, k.dose.trans h.dose⟩

theorem keepsPlant_finish (c : CycleState) (b : Bool) (s : State) : KeepsPlant s (finish c b s) := by
  rw [finish_eq]; exact ⟨rfl, rfl, rfl⟩

theorem keepsPlant_tryContest (s : State) : KeepsPlant s (tryContest s) := by
  unfold tryContest; split
  · next h =>
    simp only [Bool.and_eq_true, decide_eq_true_eq] at h
    rw [enterContest_eq h.1.1.1]; exact ⟨rfl, rfl, rfl⟩
  · exact .refl s

/-- A report that is no entry into HOLD moves between WAITING and CONTEST alone (R92, R94). -/
theorem keepsPlant_changeReport (s : State) : KeepsPlant s (changeReport none s) := by
  unfold changeReport
  split
  · split
    · exact .refl s
    · rw [loseContest_eq]; exact ⟨rfl, rfl, rfl⟩
  · split
    · exact .refl s
    · exact keepsPlant_tryContest s

/-- A completion after an outcome that gives no clean-bed signal leaves the scanner (R22). -/
theorem completeWash_scan {o : WashOutcome} (ho : o.clean = false) (s : State) : (completeWash o s).scan = s.scan := by
  unfold completeWash; simp only [clearRunSeconds_eq, ho]
  split <;> simp [clearOutcome, setBackoff, releaseFinished, offerRelease, offer, addRecord, clearDue]

theorem cutShort_scan {s : State} (hf : s.cycle.state.filtering = false) (hb : noBothAsserted s = true)
    {o : WashOutcome} (ho : o.clean = false) : (cutShort o s).scan = s.scan := by
  rw [cutShort_cases hf hb]
  split
  · exact completeWash_scan ho _
  · rfl

/-- An overlap yields at most (R107), and a wash yielded gives no clean-bed signal (R22). -/
theorem takeOverlap_scan {s : State} (hb : noBothAsserted s = true) (e : PeerEntry) :
    (takeOverlap e s).scan = s.scan := by
  unfold takeOverlap; simp only
  split
  · next h =>
    have hf : s.cycle.state.filtering = false := by
      simp only [Bool.and_eq_true, Bool.or_eq_true, decide_eq_true_eq] at h
      rcases h.1 with hs | hs <;> rw [hs] <;> rfl
    have hcut : ∀ x, (cutShort .yielded (s.setArb x)).scan = s.scan := fun x =>
      cutShort_scan (s := s.setArb x) hf hb rfl
    exact hcut _
  · rfl

theorem changeReport_scan {s : State} (hb : noBothAsserted s = true) (e : Option PeerEntry) :
    (changeReport e s).scan = s.scan := by
  cases e with
  | none => exact (keepsPlant_changeReport s).scan
  | some e =>
    unfold changeReport
    split
    · split
      · rfl
      · rw [loseContest_eq]; rfl
    · split
      · show (if overlapPasses s = true then s else takeOverlap e s).scan = s.scan
        split
        · rfl
        · exact takeOverlap_scan hb e
      · exact tryContest_scan s

/-! ### The event of an entry -/

/-- Command `cmd` at `s` is an event at which station p's entry becomes `new`, on `b`, which is `s` as the event has it
by then. -/
def EntryEvent (cmd : Instr) (p : Nat) (new : Option PeerEntry) (intoHold : Bool) (b s : State) : Prop :=
  ∃ body, exec cmd s = event false body s ∧ body s = changeEntry p new intoHold b

/-- What such an event leaves: the entry, what no report touches, and the plant where the event is no entry into HOLD. -/
theorem EntryEvent.next {cmd : Instr} {p : Nat} {new : Option PeerEntry} {intoHold : Bool} {b s : State}
    (h : EntryEvent cmd p new intoHold b s) (hs : s.supplyOk = true) :
    ∃ t, exec cmd s = .next t ∧ Keeps (withEntry p new b) t ∧ (intoHold = false → KeepsPlant b t)
      ∧ (noBothAsserted b = true → t.scan = b.scan) := by
  obtain ⟨body, he, hbody⟩ := h
  refine ⟨_, he.trans (event_eq hs false body), ?_, ?_, ?_⟩
  · rw [hbody]; exact (changeEntry_peers p new intoHold b).trans (keeps_finish _ _ _)
  · rintro rfl
    refine .trans ?_ (keepsPlant_finish _ _ _)
    rw [hbody]
    rcases changeEntry_cases p new false b with hc | hc <;> rw [hc]
    · exact ⟨rfl, rfl, rfl⟩
    · exact .trans (t := withEntry p new b) ⟨rfl, rfl, rfl⟩ (keepsPlant_changeReport _)
  · intro hb
    rw [finish_scan, hbody]
    rcases changeEntry_cases p new intoHold b with hc | hc <;> rw [hc]
    · rfl
    · exact changeReport_scan (s := withEntry p new b) hb _

end Sys2Proof.Machine
end

section
/-! SUPPORT. The arrivals and the lapses as events of one entry, and the frames that the link does not pass on (R71 to
R82, R112, R113, R130). -/

namespace Sys2Proof.Machine

/-! ### Frames by their kind (R130) -/

/-- A CLAIM, READING or STATUS of the own number goes no further (R82). -/
theorem judgeFrame_own {kind g p : Nat} {s : State} (hk : kind ≤ 2) (hp : p = s.load.station) (data : List Byte) :
    judgeFrame kind g p data s = setDuplicate s := by
  unfold judgeFrame; rw [if_neg (by omega), if_pos (by simp [hk, hp])]

theorem judgeFrame_claim {g p : Nat} {s : State} (hp : p ≠ s.load.station) (data : List Byte) :
    judgeFrame 0 g p data s = receiveClaim p g data s := by
  simp [judgeFrame, hp]

theorem judgeFrame_reading {g p : Nat} {s : State} (hp : p ≠ s.load.station) (hg : g = s.load.group)
    (data : List Byte) : judgeFrame 1 g p data s = receiveReading p g data s := by
  simp [judgeFrame, hp, hg]

theorem judgeFrame_status {g p : Nat} {s : State} (hp : p ≠ s.load.station) (data : List Byte) :
    judgeFrame 2 g p data s = receiveStatus p g data s := by
  simp [judgeFrame, hp]

/-- The frames that the filter ignores (R130 steps 3, 5 and 6). -/
theorem judgeFrame_ignored {kind g p : Nat} {s : State}
    (h : 4 ≤ kind ∨ (kind = 1 ∧ p ≠ s.load.station ∧ g ≠ s.load.group) ∨ (kind = 3 ∧ p ≠ s.load.station))
    (data : List Byte) : judgeFrame kind g p data s = s := by
  rcases h with h | ⟨rfl, hp, hg⟩ | ⟨rfl, hp⟩
  · exact if_pos h
  · simp [judgeFrame, hp, hg]
  · simp [judgeFrame, hp]

/-- Settles O36: by the steps of the filter, one frame after another. -/
theorem framesThatAreNotPassedOn : Obligations.FramesThatAreNotPassedOn := by
  intro g p data f s hs flagged
  constructor
  · intro hp
    have hflag : ∀ k ≤ 2, event false (receive (plainFrame k g.toNat p.toNat data)) s = flagged := by
      intro k hk
      refine event_quiet_of_body (u := setDuplicate (heard s)) hs ?_ rfl
      rw [receive_plainFrame (by omega)]
      exact judgeFrame_own (s := heard s) hk hp data
    exact ⟨hflag 0 (by decide), hflag 0 (by decide), hflag 0 (by decide), hflag 2 (by decide), hflag 1 (by decide)⟩
  · intro hf
    refine event_quiet_of_body (u := heard s) hs ?_ rfl
    unfold receive; simp only
    split
    · rfl
    · next hbase =>
      simp only [Bool.or_eq_true, not_or] at hbase
      exact judgeFrame_ignored (s := heard s) ((hf.resolve_left hbase.1).resolve_left hbase.2) f.data

/-! ### The arrivals as events of an entry -/

section Arrivals

variable {g : BitVec 3} {p : BitVec 5} {s : State}

theorem receive_claim (hp : p.toNat ≠ s.load.station) (data : List Byte) :
    receive (plainFrame 0 g.toNat p.toNat data) s = receiveClaim p.toNat g.toNat data (heard s) :=
  (receive_plainFrame (by decide) g p data s).trans (judgeFrame_claim (s := heard s) hp data)

theorem receive_status (hp : p.toNat ≠ s.load.station) (data : List Byte) :
    receive (plainFrame 2 g.toNat p.toNat data) s = receiveStatus p.toNat g.toNat data (heard s) :=
  (receive_plainFrame (by decide) g p data s).trans (judgeFrame_status (s := heard s) hp data)

theorem claimIntent_event (hp : p.toNat ≠ s.load.station) (u : Byte) {f : Byte} (hf : f ≠ 0) (x : Byte) :
    EntryEvent (.claimIntentArrival g p [1, u, f, x]) p.toNat
      (some ((entryAt p.toNat g.toNat s.peers.entries).takeIntent u.toNat f.toNat)) false (heard s) s := by
  have hflow : byteAt [1, u, f, x] 2 ≠ 0 := fun h => hf (BitVec.eq_of_toNat_eq h)
  refine ⟨_, rfl, ?_⟩
  rw [receive_claim hp]
  exact if_neg hflow

theorem claimHold_event (hp : p.toNat ≠ s.load.station) (u : Byte) {f : Byte} (hf : f ≠ 0) (x : Byte) :
    EntryEvent (.claimHoldArrival g p [2, u, f, x]) p.toNat
      (some ((entryAt p.toNat g.toNat s.peers.entries).takeHold u.toNat f.toNat))
      (!(entryAt p.toNat g.toNat s.peers.entries).claim.isHold) (heard s) s := by
  have hflow : byteAt [2, u, f, x] 2 ≠ 0 := fun h => hf (BitVec.eq_of_toNat_eq h)
  refine ⟨_, rfl, ?_⟩
  rw [receive_claim hp]
  exact if_neg hflow

theorem claimRelease_event (hp : p.toNat ≠ s.load.station) (u f : Byte) {x : Byte} (hx : x.toNat ≤ 2) :
    EntryEvent (.claimReleaseArrival g p [3, u, f, x]) p.toNat
      (keptEntry (entryAt p.toNat g.toNat s.peers.entries).clearClaim) false (heard s) s := by
  have hreason : ¬ 2 < byteAt [3, u, f, x] 3 := Nat.not_lt.2 hx
  refine ⟨_, rfl, ?_⟩
  rw [receive_claim hp]
  exact if_neg hreason

theorem status_event (hp : p.toNat ≠ s.load.station) {b : Byte} {rest : List Byte} {code : CycleState}
    (hc : CycleState.ofCode b.toNat = some code) (hn : rest.length = 7) :
    EntryEvent (.statusArrival g p (b :: rest)) p.toNat
      (some ((entryAt p.toNat g.toNat s.peers.entries).takeStatus code)) false (heard s) s := by
  have hcode : CycleState.ofCode (byteAt (b :: rest) 0) = some code := hc
  refine ⟨_, rfl, ?_⟩
  rw [receive_status hp]
  unfold receiveStatus
  rw [if_neg (by simp [hn])]
  simp only [hcode]; rfl

/-- What a READING of the own group makes of the record: adopted, or ignored and counted (R112, R113). -/
theorem Dosing.takeReading_eq (d : Dosing) (holder : Bool) (p f ph : Nat) (a : AnalyserState) :
    d.takeReading holder p f ph a =
      if holder = false ∧ (d.fresh = false ∨ d.source = some p) then
        { d with
          source := some p, readingF := f, readingPh := ph, analyser := a, readingAge := 0, conflict := false }
      else { d with duplicateReadings := satInc d.duplicateReadings, conflict := true } := by
  unfold Dosing.takeReading
  cases holder with
  | true => simp [Dosing.ignoreReading]
  | false => simp [Dosing.adopt, Dosing.ignoreReading]

/-- The body of a READING's arrival: the record, and the group of an entry that is there (R71, R112, R113). -/
theorem receive_reading (hp : p.toNat ≠ s.load.station) (hg : g.toNat = s.load.group) (b0 b1 b2 b3 : Byte) {b4 : Byte}
    {a : AnalyserState} (ha : b4.toNat = a.code) :
    receive (plainFrame 1 g.toNat p.toNat [b0, b1, b2, b3, b4]) s =
      peerReading p.toNat g.toNat ((heard s).setDose
        (s.dose.takeReading s.sampleHolder p.toNat (b0.toNat + 256 * b1.toNat) (b2.toNat + 256 * b3.toNat) a)) := by
  have hcode : AnalyserState.ofCode (byteAt [b0, b1, b2, b3, b4] 4) = some a := by
    show AnalyserState.ofCode b4.toNat = some a
    rw [ha]; cases a <;> rfl
  refine (receive_plainFrame (by decide) g p _ s).trans ((judgeFrame_reading (s := heard s) hp hg _).trans ?_)
  unfold receiveReading
  rw [if_neg (by simp)]
  simp only [hcode]; rfl

theorem reading_event (hp : p.toNat ≠ s.load.station) (hg : g.toNat = s.load.group) (b0 b1 b2 b3 : Byte) {b4 : Byte}
    {a : AnalyserState} (ha : b4.toNat = a.code) {e : PeerEntry} (he : findEntry p.toNat s.peers.entries = some e) :
    EntryEvent (.readingArrival g p [b0, b1, b2, b3, b4]) p.toNat (some { e with group := g.toNat }) false
      ((heard s).setDose
        (s.dose.takeReading s.sampleHolder p.toNat (b0.toNat + 256 * b1.toNat) (b2.toNat + 256 * b3.toNat) a)) s := by
  have hfound : ∀ d, findEntry p.toNat ((heard s).setDose d).peers.entries = some e := fun _ => he
  refine ⟨_, rfl, ?_⟩
  rw [receive_reading hp hg b0 b1 b2 b3 ha]
  unfold peerReading; simp only [hfound]

end Arrivals

/-! ### The lapses as events of an entry -/

section Lapses

variable {p : BitVec 5} {s : State} {e : PeerEntry}

theorem statusLapse_event (he : findEntry p.toNat s.peers.entries = some e) (hd : e.statusDue = true) :
    EntryEvent (.statusLapse p) p.toNat (keptEntry e.clearStatus) false
      (s.setPeers { s.peers with statusLapses := satInc s.peers.statusLapses }) s :=
  ⟨_, rfl, by unfold lapseStatus; simp only [he, hd]; rfl⟩

theorem intentLapse_event (he : findEntry p.toNat s.peers.entries = some e) (hi : e.claim.isIntent = true)
    (hd : 300 ≤ e.claimAge) : EntryEvent (.intentLapse p) p.toNat (keptEntry e.clearClaim) false s s := by
  have hdue : e.intentDue = true := by simp [PeerEntry.intentDue, hi, hd]
  exact ⟨_, rfl, by unfold lapseIntent; simp only [he, hdue]; rfl⟩

theorem holdLapse_event (he : findEntry p.toNat s.peers.entries = some e) (hh : e.claim.isHold = true)
    (hd : s.cfg.claimLapse * 100 ≤ e.claimAge) :
    EntryEvent (.holdLapse p) p.toNat (keptEntry e.clearClaim) false
      (s.setPeers { s.peers with claimLapses := satInc s.peers.claimLapses }) s := by
  have hdue : e.holdDue s.cfg.claimLapse = true := by simp [PeerEntry.holdDue, hh, hd]
  exact ⟨_, rfl, by unfold lapseHold; simp only [he, hdue]; rfl⟩

end Lapses

/-! ### What is found after the event -/

/-- `t` has the table of `b` but for station p's entry, which is `new`. -/
structure EntryLeft (p : Nat) (new : Option PeerEntry) (b t : State) : Prop where
  entry        : findEntry p t.peers.entries = new
  others       : ∀ q ≠ p, findEntry q t.peers.entries = findEntry q b.peers.entries
  statusLapses : t.peers.statusLapses = b.peers.statusLapses
  claimLapses  : t.peers.claimLapses = b.peers.claimLapses
  duplicate    : t.peers.duplicate = b.peers.duplicate

theorem EntryLeft.of_keeps {p : Nat} {new : Option PeerEntry} {b t : State} (k : Keeps (withEntry p new b) t)
    (hnew : ∀ e, new = some e → e.station = p) : EntryLeft p new b t := by
  have hpeers : t.peers = { b.peers with entries := storeEntry p new b.peers.entries } := k.peers
  refine ⟨?_, fun q hq => ?_, ?_, ?_, ?_⟩ <;> rw [hpeers]
  · exact findEntry_storeEntry_same hnew _
  · exact findEntry_storeEntry_other hq hnew _

/-- What an event that is no entry into HOLD leaves (R71 to R79). -/
theorem EntryEvent.left {cmd : Instr} {p : Nat} {new : Option PeerEntry} {b s : State}
    (h : EntryEvent cmd p new false b s) (hs : s.supplyOk = true) (hnew : ∀ e, new = some e → e.station = p) :
    ∃ t, exec cmd s = .next t ∧ EntryLeft p new b t ∧ KeepsPlant b t ∧ t.req = b.req := by
  obtain ⟨t, he, hk, hplant, -⟩ := h.next hs
  exact ⟨t, he, .of_keeps hk hnew, hplant rfl, hk.req⟩

/-- What a CLAIM of a peer leaves: its entry, every other entry, and what neither the table nor its report touches. -/
def ClaimTaken (p q : Nat) (s : State) (new : Option PeerEntry) (t : State) : Prop :=
  findEntry p t.peers.entries = new ∧ findEntry q t.peers.entries = findEntry q s.peers.entries
  ∧ t.peers.statusLapses = s.peers.statusLapses ∧ t.peers.claimLapses = s.peers.claimLapses
  ∧ t.peers.duplicate = s.peers.duplicate ∧ t.pins = s.pins ∧ t.inputs = s.inputs ∧ t.scan = s.scan
  ∧ t.req = s.req ∧ t.load = s.load

theorem completes_claimTaken {cmd : Instr} {p q : Nat} {new : Option PeerEntry} {intoHold : Bool} {s : State}
    (hs : s.supplyOk = true) (hq : q ≠ p) (h : EntryEvent cmd p new intoHold (heard s) s)
    (hnew : ∀ e, new = some e → e.station = p) (hb : intoHold = false ∨ noBothAsserted s = true) :
    completes cmd s (ClaimTaken p q s new) := by
  obtain ⟨t, he, hk, hplant, hscan⟩ := h.next hs
  have hleft := EntryLeft.of_keeps hk hnew
  refine ⟨t, he, hleft.entry, hleft.others q hq, hleft.statusLapses, hleft.claimLapses, hleft.duplicate, hk.pins,
    hk.inputs, ?_, hk.req, hk.load⟩
  rcases hb with hb | hb
  · exact (hplant hb).scan
  · exact hscan hb

/-- Settles O34: each CLAIM is an event of its entry. -/
theorem claimArrivalsSetThePeersClaim : Obligations.ClaimArrivalsSetThePeersClaim := by
  intro g p u f x q s hs hp hq old kept after
  refine ⟨fun hf => ⟨?_, fun hb => ?_⟩, fun hx => ?_⟩
  · have h := claimIntent_event (g := g) hp u hf x
    rw [entryAt_eq] at h
    refine completes_claimTaken hs hq h ?_ (.inl rfl)
    rintro e ⟨⟩; rfl
  · have h := claimHold_event (g := g) hp u hf x
    rw [entryAt_eq] at h
    refine completes_claimTaken hs hq h ?_ (.inr hb)
    rintro e ⟨⟩; rfl
  · have h := claimRelease_event (g := g) hp u f hx
    rw [entryAt_eq, keptEntry_clearClaim] at h
    refine completes_claimTaken hs hq h ?_ (.inl rfl)
    intro e he
    split at he <;> cases he
    rfl

/-- Settles O35: a STATUS is an event of its entry, and a READING of an entry that is there. -/
theorem statusAndReadingArrivals : Obligations.StatusAndReadingArrivals := by
  intro g p b0 b1 b2 b3 b4 b5 b6 b7 code a s hs hp old
  constructor
  · intro hc
    have h := status_event (g := g) (rest := [b1, b2, b3, b4, b5, b6, b7]) hp hc rfl
    rw [entryAt_eq] at h
    obtain ⟨t, he, hleft, hplant, hreq⟩ := h.left hs (by rintro e ⟨⟩; rfl)
    exact ⟨t, he, hleft.entry, hplant.dose, hplant.valves, hplant.scan, hreq⟩
  · intro ha hg
    rw [← Dosing.takeReading_eq]
    cases hold : findEntry p.toNat s.peers.entries with
    | none =>
      have hbody := receive_reading hp hg b0 b1 b2 b3 ha
      have hnone : ∀ d, findEntry p.toNat ((heard s).setDose d).peers.entries = none := fun _ => hold
      unfold peerReading at hbody; simp only [hnone] at hbody
      refine ⟨_, event_quiet_of_body hs hbody rfl, rfl, ?_, rfl, rfl, rfl⟩
      show _ = Option.map _ (findEntry p.toNat s.peers.entries)
      rw [hold]; exact hold
    | some e =>
      obtain ⟨t, he, hleft, hplant, hreq⟩ := (reading_event hp hg b0 b1 b2 b3 ha hold).left hs
        (by rintro x ⟨⟩; exact (findEntry_station hold :))
      refine ⟨t, he, hplant.dose, ?_, hplant.valves, hplant.scan, hreq⟩
      show _ = Option.map _ (findEntry p.toNat s.peers.entries)
      rw [hold]; exact hleft.entry

/-- Settles O38: each lapse is an event of its entry. -/
theorem lapsesRemoveWhatIsSilent : Obligations.LapsesRemoveWhatIsSilent := by
  intro p e s hs hfound hst noClaim
  have hkept : ∀ {x : PeerEntry}, x.station = e.station → ∀ y, keptEntry x = some y → y.station = p.toNat :=
    fun hx y hy => (station_of_keptEntry hy).trans (hx.trans hst)
  have hclaim : keptEntry e.clearClaim = noClaim := keptEntry_clearClaim e
  refine ⟨fun hd => ?_, fun hi hd => ?_, fun hh hd => ?_⟩
  · obtain ⟨t, he, hleft, hplant, -⟩ := (statusLapse_event hfound hd).left hs (hkept rfl)
    exact ⟨t, he, hleft.entry.trans (keptEntry_clearStatus e), hleft.statusLapses, hleft.claimLapses, hplant.dose,
      hplant.valves⟩
  · obtain ⟨t, he, hleft, hplant, -⟩ := (intentLapse_event hfound hi hd).left hs (hkept rfl)
    exact ⟨t, he, hleft.entry.trans hclaim, hleft.statusLapses, hleft.claimLapses, hplant.dose, hplant.valves⟩
  · obtain ⟨t, he, hleft, hplant, -⟩ := (holdLapse_event hfound hh hd).left hs (hkept rfl)
    exact ⟨t, he, hleft.entry.trans hclaim, hleft.claimLapses, hleft.statusLapses, hplant.dose, hplant.valves⟩

end Sys2Proof.Machine
end

section
/-! SUPPORT. The change report at the event of an entry, by the cycle state it finds (R81, R92, R94). -/

namespace Sys2Proof.Machine

/-! ### The contest lost and the contest entered as an event -/

/-- A RELEASE reads of the state the group and the station number alone (R129). -/
theorem withdrawnLink_congr {s m : State} (h : m.load = s.load) (l : Link) : withdrawnLink m l = withdrawnLink s l := by
  unfold withdrawnLink claimFrame; rw [h]

/-- A contest lost at an event in CONTEST, with the link at `l` (R94, R98). -/
theorem completes_contestOver {cmd : Instr} {body : State → State} {s m : State} {l : Link} (hs : s.supplyOk = true)
    (he : exec cmd s = event false body s) (hst : s.cycle.state = .contest)
    (hbody : body s = loseContest true (m.setLink l)) :
    completes cmd s (contestOver (satInc m.arb.contestsLost) (withdrawnLink m l) m) := by
  rw [loseContest_eq] at hbody
  refine completes_change hs he hbody (by decide : CycleState.waiting ≠ .starting) ?_ fun _ ht => ht
  rw [hst]; exact (by decide : CycleState.waiting ≠ .contest)

/-- A contest entered at an event in WAITING, with the link at `l` (R8, R92). -/
theorem completes_contestEntered {cmd : Instr} {body : State → State} {s m : State} {l : Link} (hs : s.supplyOk = true)
    (he : exec cmd s = event false body s) (hst : s.cycle.state = .waiting) (hm : m.cycle.state = .waiting)
    (hbody : body s = enterContest (m.setLink l)) : completes cmd s (contestEntered l m) := by
  rw [enterContest_eq (s := m.setLink l) hm] at hbody
  refine completes_change hs he hbody (by decide : CycleState.contest ≠ .starting) ?_ fun _ ht => ht
  rw [hst]; exact (by decide : CycleState.contest ≠ .waiting)

/-- In WAITING the test is run where the claim is NONE and the conditions for a new intent hold (R92). -/
theorem tryContest_waiting {s : State} (h : s.cycle.state = .waiting) :
    tryContest s =
      if s.arb.claim = .none ∧ intentConditions s = true ∧ admission s = true then enterContest s else s := by
  unfold tryContest; simp [h, and_assoc]

/-- The admission test reads nothing of the link (R89, R90). -/
theorem admission_setLink (m : State) (l : Link) : admission (m.setLink l) = admission m := rfl

/-- The conditions for a new intent read of the link its state and its success age alone (R91, R140). -/
theorem intentConditions_setLink {m : State} {l : Link} (hmode : l.mode = m.link.mode)
    (hage : l.successAge = m.link.successAge) : intentConditions (m.setLink l) = intentConditions m := by
  unfold intentConditions Link.connected
  rw [State.setLink_link, hmode, hage]; rfl

@[simp] theorem Link.afterArrival_mode (l : Link) : l.afterArrival.mode = l.mode := by
  unfold Link.afterArrival; split <;> rfl

@[simp] theorem Link.afterArrival_successAge (l : Link) : l.afterArrival.successAge = l.successAge := by
  unfold Link.afterArrival; split <;> rfl

/-! ### The report -/

/-- What an event of station p's entry does at `s`, the entry becoming `new` in `m`, with the link at `l` (R81): no more
than that, or the contest is lost, or one is entered. -/
def Reported (s : State) (p : Nat) (cmd : Instr) (l : Link) (m : State) (new : Option PeerEntry) (intoHold : Bool) :
    Prop :=
  let enters := s.arb.claim = .none ∧ intentConditions m = true ∧ admission m = true
  ((findEntry p s.peers.entries).map PeerEntry.visible = new.map PeerEntry.visible →
      exec cmd s = .next (m.setLink l.take))
  ∧ (s.cycle.state ≠ .contest → s.cycle.state ≠ .waiting → s.cycle.state.washStep = false ∨ intoHold = false →
      exec cmd s = .next (m.setLink l.take))
  ∧ ((findEntry p s.peers.entries).map PeerEntry.visible ≠ new.map PeerEntry.visible →
      (s.cycle.state = .contest → s.arb.claim.isIntent = true →
        (admission m = false → completes cmd s (contestOver (satInc s.arb.contestsLost) (withdrawnLink s l) m))
        ∧ (admission m = true → exec cmd s = .next (m.setLink l.take)))
      ∧ (s.cycle.state = .waiting →
          (enters → completes cmd s (contestEntered l m))
          ∧ (¬ enters → exec cmd s = .next (m.setLink l.take))))

/-- `m` has the cycle, the arbiter, the loader and the link of `s`: what a report reads beside the table and the
duplicate flag. -/
structure ReportsAs (s m : State) : Prop where
  cycle : m.cycle = s.cycle
  arb   : m.arb = s.arb
  load  : m.load = s.load
  link  : m.link = s.link

/-- The event whose body is the change of the entry, with its report where the arbiter reads it. -/
theorem reported_of_body {cmd : Instr} {body : State → State} {p : Nat} {new : Option PeerEntry} {intoHold : Bool}
    {l : Link} {s m : State} (hs : s.supplyOk = true) (he : exec cmd s = event false body s) (hm : ReportsAs s m)
    (hmode : l.mode = s.link.mode) (hage : l.successAge = s.link.successAge)
    (hunread : (findEntry p s.peers.entries).map PeerEntry.visible = new.map PeerEntry.visible →
      body s = m.setLink l)
    (hread : (findEntry p s.peers.entries).map PeerEntry.visible ≠ new.map PeerEntry.visible →
      body s = changeReport (if intoHold then new else none) (m.setLink l)) :
    Reported s p cmd l m new intoHold := by
  have hquiet : body s = m.setLink l → exec cmd s = .next (m.setLink l.take) := fun hb =>
    he.trans (event_quiet_of_body hs hb (congrArg Cycle.state hm.cycle))
  refine ⟨fun hv => hquiet (hunread hv), fun hc hw hq => hquiet ?_, fun hv => ⟨fun hst hi => ?_, fun hst => ?_⟩⟩
  case refine_1 =>
    by_cases hv : (findEntry p s.peers.entries).map PeerEntry.visible = new.map PeerEntry.visible
    · exact hunread hv
    · rw [hread hv]
      refine changeReport_elsewhere ?_ ?_ ?_ <;> rw [State.setLink_cycle, hm.cycle]
      · exact hc
      · exact hw
      · exact hq.imp_right fun hq => by rw [hq]; rfl
  case refine_2 =>
    have hst' : (m.setLink l).cycle.state = .contest := by rw [State.setLink_cycle, hm.cycle]; exact hst
    have hi' : (m.setLink l).arb.claim.isIntent = true := by rw [State.setLink_arb, hm.arb]; exact hi
    have hbody := (hread hv).trans (changeReport_contest hst' hi' _)
    rw [admission_setLink] at hbody
    constructor
    · intro hfails
      rw [hfails] at hbody
      have hlost := completes_contestOver hs he hst hbody
      rw [hm.arb, withdrawnLink_congr hm.load] at hlost
      exact hlost
    · intro hpasses
      rw [if_pos hpasses] at hbody
      exact hquiet hbody
  case refine_3 =>
    have hst' : (m.setLink l).cycle.state = .waiting := by rw [State.setLink_cycle, hm.cycle]; exact hst
    have hbody := ((hread hv).trans (changeReport_waiting hst' _)).trans (tryContest_waiting hst')
    rw [State.setLink_arb, hm.arb, admission_setLink, intentConditions_setLink (by rw [hm.link]; exact hmode)
      (by rw [hm.link]; exact hage)] at hbody
    constructor
    · intro henters
      rw [if_pos henters] at hbody
      exact completes_contestEntered hs he hst hst' hbody
    · intro henters
      rw [if_neg henters] at hbody
      exact hquiet hbody

/-- The event of an entry reports as R81 has it, on `b` with the link at `l`. -/
theorem EntryEvent.reported {cmd : Instr} {p : Nat} {new : Option PeerEntry} {intoHold : Bool} {l : Link} {b s : State}
    (h : EntryEvent cmd p new intoHold (b.setLink l) s) (hs : s.supplyOk = true) (hb : ReportsAs s b)
    (hes : b.peers.entries = s.peers.entries) (hmode : l.mode = s.link.mode)
    (hage : l.successAge = s.link.successAge) :
    Reported s p cmd l (b.setPeers { b.peers with entries := storeEntry p new s.peers.entries }) new intoHold := by
  obtain ⟨body, he, hbody⟩ := h
  have hm : ReportsAs s (b.setPeers { b.peers with entries := storeEntry p new s.peers.entries }) :=
    ⟨hb.cycle, hb.arb, hb.load, hb.link⟩
  have hentry : withEntry p new (b.setLink l) =
      (b.setPeers { b.peers with entries := storeEntry p new s.peers.entries }).setLink l := by
    unfold withEntry; rw [State.setLink_peers, hes]; rfl
  have hold : findEntry p (b.setLink l).peers.entries = findEntry p s.peers.entries := congrArg _ hes
  refine reported_of_body hs he hm hmode hage (fun hv => ?_) fun hv => ?_
  · rw [hbody, changeEntry_unread (by rw [hold]; exact hv), hentry]
  · rw [hbody, changeEntry_read (by rw [hold]; exact hv), hentry]

/-- An arrival reports with the link as it has heard the frame (R135). -/
theorem EntryEvent.reported_heard {cmd : Instr} {p : Nat} {new : Option PeerEntry} {intoHold : Bool} {b s : State}
    (h : EntryEvent cmd p new intoHold (b.setLink s.link.afterArrival) s) (hs : s.supplyOk = true)
    (hb : ReportsAs s b) (hes : b.peers.entries = s.peers.entries) :
    Reported s p cmd s.link.afterArrival (b.setPeers { b.peers with entries := storeEntry p new s.peers.entries }) new
      intoHold :=
  h.reported hs hb hes (Link.afterArrival_mode _) (Link.afterArrival_successAge _)

/-- Settles O41: each of the eight events is an event of its entry, and reports as R81 has it. -/
theorem failedTestLosesTheContest : Obligations.FailedTestLosesTheContest := by
  intro g p u f x b0 b1 b2 b3 b4 rest code a found s hs old e hheard cleared reported
  have hsame : ReportsAs s s := ⟨rfl, rfl, rfl, rfl⟩
  have hcleared : ∀ e : PeerEntry, keptEntry e.clearClaim = cleared e := keptEntry_clearClaim
  refine ⟨fun hp => ⟨fun hf => ⟨?_, ?_⟩, fun hx => ?_, fun hc hn => ?_, fun ha hg hfound => ?_⟩,
    fun hfound => ⟨fun hd => ?_, fun hi hd => ?_, fun hh hd => ?_⟩⟩
  · exact (claimIntent_event hp u hf x).reported_heard hs hsame rfl
  · exact (claimHold_event hp u hf x).reported_heard hs hsame rfl
  · rw [← hcleared]
    exact (claimRelease_event hp u f hx).reported_heard hs hsame rfl
  · exact (status_event hp hc hn).reported_heard hs hsame rfl
  · rw [← Dosing.takeReading_eq]
    exact EntryEvent.reported_heard (b := s.setDose _) (reading_event hp hg b0 b1 b2 b3 ha hfound) hs
      ⟨rfl, rfl, rfl, rfl⟩ rfl
  · rw [← keptEntry_clearStatus]
    exact EntryEvent.reported (b := s.setPeers _) (statusLapse_event hfound hd) hs ⟨rfl, rfl, rfl, rfl⟩ rfl rfl rfl
  · rw [← hcleared]
    exact (intentLapse_event hfound hi hd).reported hs hsame rfl rfl rfl
  · rw [← hcleared]
    exact EntryEvent.reported (b := s.setPeers _) (holdLapse_event hfound hh hd) hs ⟨rfl, rfl, rfl, rfl⟩ rfl rfl rfl

end Sys2Proof.Machine
end

section
/-! SUPPORT. The drain law taken apart (R86, R101): what the claim, the cycle state, the confirmations and the channels
have to be to one another; and what the arbiter, a command and a channel's own event leave of it. -/

namespace Sys2Proof.Machine

/-! ### The drain law -/

/-- The claim covers the waste valves: it is HOLD where one is not CLOSED (R101). -/
def ClaimCovers (claim : OwnClaim) (x : Valves) : Prop :=
  ∀ v, isWaste v = true → (x.get v).state = .closed ∨ claim.isHold = true

/-- The drain law of a claim, a cycle state, the confirmations of its set and the channels. -/
structure DrainLawful (claim : OwnClaim) (c : CycleState) (confirmed : ValveFlags) (x : Valves) : Prop where
  intent   : claim.isIntent = true ↔ c = .contest
  washing  : c.washing = true → claim.isHold = true
  starting : c = .starting → claim = .none ∧ ∀ v, (x.get v).state = .stopped
  covers   : c ≠ .starting → ClaimCovers claim x
  obeyed   : ∀ set, commandedSet c = some set → ∀ v, obeys set confirmed x v = true

/-- The drain law as a proposition. -/
def DrainOk (s : State) : Prop := DrainLawful s.arb.claim s.cycle.state s.cycle.confirmed s.valves

theorem claimCovers_iff (claim : OwnClaim) (x : Valves) :
    ClaimCovers claim x ↔ x.wasteClosed = true ∨ claim.isHold = true := by
  have hclosed : x.wasteClosed = true ↔ x.washOut.state = .closed ∧ x.rinse.state = .closed := by
    simp [Valves.wasteClosed]
  rw [hclosed]
  constructor
  · intro h
    rcases h .washOut rfl with ho | hh
    · exact (h .rinse rfl).imp_left fun hr => ⟨ho, hr⟩
    · exact .inr hh
  · rintro (⟨ho, hr⟩ | hh) v hv
    · cases v <;> first | exact .inl ho | exact .inl hr | cases hv
    · exact .inr hh

theorem drainLaw_iff (s : State) : drainLaw s = true ↔ DrainOk s := by
  have hobeyed : setObeyed s = true ↔
      (∀ set, commandedSet s.cycle.state = some set → ∀ v, obeys set s.cycle.confirmed s.valves v = true)
        ∧ (s.cycle.state = .starting → ∀ v, (s.valves.get v).state = .stopped) := by
    unfold setObeyed
    cases hc : commandedSet s.cycle.state with
    | some set =>
      have hne : s.cycle.state ≠ .starting := by rintro h; rw [h] at hc; cases hc
      simp only [valves_all_iff, Option.some.injEq, forall_eq', hne, false_imp_iff, and_true]
    | none =>
      simp only [valves_all_iff, Bool.or_eq_true, bne_iff_ne, Classical.or_iff_not_imp_left, Classical.not_not,
        decide_eq_true_eq, reduceCtorEq, false_imp_iff, implies_true, true_and]
  have hwashing : (s.cycle.state.washStep || decide (s.cycle.state = .returning)) = s.cycle.state.washing := rfl
  have hintent : (s.arb.claim.isIntent == decide (s.cycle.state = .contest)) = true ↔
      (s.arb.claim.isIntent = true ↔ s.cycle.state = .contest) := by
    rw [beq_iff_eq, Bool.eq_iff_iff, decide_eq_true_eq]
  have hor : ∀ a b : Bool, ((!a || b) = true) ↔ (a = true → b = true) := by decide
  simp only [drainLaw, Bool.and_eq_true, hobeyed, hwashing, hintent, hor]
  simp only [Bool.or_eq_true, bne_iff_ne, decide_eq_true_eq, or_assoc, ← claimCovers_iff]
  constructor
  · rintro ⟨⟨⟨⟨hi, hw⟩, hs⟩, hc⟩, ho, hst⟩
    exact ⟨hi, hw, fun h => ⟨hs.resolve_left (Classical.not_not.2 h), hst h⟩, fun h => hc.resolve_left h, ho⟩
  · intro h
    exact ⟨⟨⟨⟨h.intent, h.washing⟩, Classical.or_iff_not_imp_left.2 fun hs => (h.starting (Classical.not_not.1 hs)).1⟩,
      Classical.or_iff_not_imp_left.2 h.covers⟩, h.obeyed, fun hs => (h.starting hs).2⟩

theorem obeys_iff (set : ValveSet) (confirmed : ValveFlags) (x : Valves) (v : ValveId) :
    obeys set confirmed x v = true ↔
      (confirmed.get v = true → (x.get v).state = settledAt (set v))
        ∧ ((x.get v).state.destination = none ∨ (x.get v).state.destination = some (set v)) := by
  cases hf : confirmed.get v <;> simp [obeys, hf]

theorem OwnClaim.isIntent_of_isHold {claim : OwnClaim} (h : claim.isHold = true) : claim.isIntent = false := by
  cases claim <;> first | rfl | cases h

/-- A state without a set, that is neither STARTING nor CONTEST, asks that the claim is no INTENT and covers the waste
valves. -/
theorem DrainLawful.of_no_set {claim : OwnClaim} {c : CycleState} {confirmed : ValveFlags} {x : Valves}
    (hc : commandedSet c = none) (hs : c ≠ .starting) (hn : c ≠ .contest) (hi : claim.isIntent = false)
    (hx : ClaimCovers claim x) : DrainLawful claim c confirmed x where
  intent := by simp [hi, hn]
  washing h := by cases c <;> simp_all [CycleState.washing, CycleState.washStep, commandedSet]
  starting h := absurd h hs
  covers _ := hx
  obeyed set h := by rw [hc] at h; cases h

/-- A state with a set asks besides that the channels obey it, and for HOLD in a wash. -/
theorem DrainLawful.of_set {claim : OwnClaim} {c : CycleState} {confirmed : ValveFlags} {x : Valves} {set : ValveSet}
    (hc : commandedSet c = some set) (hi : claim.isIntent = false) (hw : c.washing = true → claim.isHold = true)
    (hx : ClaimCovers claim x) (ho : ∀ v, obeys set confirmed x v = true) : DrainLawful claim c confirmed x where
  intent := by rw [hi]; cases c <;> simp_all [commandedSet]
  washing := hw
  starting h := by rw [h] at hc; cases hc
  covers _ := hx
  obeyed set' h := by rw [hc] at h; cases h; exact ho

theorem DrainLawful.not_intent {claim : OwnClaim} {c : CycleState} {confirmed : ValveFlags} {x : Valves}
    (h : DrainLawful claim c confirmed x) (hc : c ≠ .contest) : claim.isIntent = false := by
  rw [Bool.eq_false_iff]; exact fun hi => hc (h.intent.1 hi)

/-- A set whose channels have all confirmed stands in their states (R2). -/
theorem DrainLawful.settled {claim : OwnClaim} {c : CycleState} {confirmed : ValveFlags} {x : Valves} {set : ValveSet}
    (h : DrainLawful claim c confirmed x) (hc : commandedSet c = some set) (hall : confirmed.all = true) (v : ValveId) :
    (x.get v).state = settledAt (set v) :=
  ((obeys_iff _ _ _ _).1 (h.obeyed set hc v)).1 ((ValveFlags.all_iff _).1 hall v)

/-! ### Changes of cycle state -/

@[simp] theorem enterState_claim (new : CycleState) (s : State) : (enterState new s).arb.claim = s.arb.claim := by
  rw [enterState_eq, State.setArb_arb]; split <;> rfl

/-- Entry into a state without a set. -/
theorem drainOk_enterState {s : State} {new : CycleState} (hc : commandedSet new = none) (hs : new ≠ .starting)
    (hn : new ≠ .contest) (hi : s.arb.claim.isIntent = false) (hx : ClaimCovers s.arb.claim s.valves) :
    DrainOk (enterState new s) := by
  have h := DrainLawful.of_no_set (confirmed := (cycleIn new s.cycle).confirmed) hc hs hn hi hx
  unfold DrainOk; rwa [enterState_claim, enterState_cycle, enterState_valves]

/-! ### The waste valves' reports -/

/-- What a waste valve's report makes of the claim: a forced hold where it leaves CLOSED (R101), NONE where a HOLD is
released with both CLOSED (R104), or as it was. -/
theorem wasteReport_claim (v : ValveId) (a b : ValveState) (s : State) :
    (wasteReport v a b s).arb.claim = .hold 255
    ∨ ((wasteReport v a b s).arb.claim = .none ∧ s.valves.wasteClosed = true)
    ∨ (wasteReport v a b s).arb.claim = s.arb.claim := by
  rcases wasteReport_cases v a b s with h | h | h <;> rw [h]
  · rcases wasteLeftClosed_cases s with e | e <;> rw [e]
    · exact .inr (.inr rfl)
    · exact .inl rfl
  · unfold wasteBecameClosed
    split
    next hc =>
      simp only [Bool.and_eq_true] at hc
      exact .inr (.inl ⟨rfl, hc.2⟩)
    · exact .inr (.inr rfl)
  · exact .inr (.inr rfl)

theorem wasteReport_not_intent {v : ValveId} {a b : ValveState} {s : State} (h : s.arb.claim.isIntent = false) :
    (wasteReport v a b s).arb.claim.isIntent = false := by
  rcases wasteReport_claim v a b s with e | ⟨e, -⟩ | e <;> rw [e]
  · rfl
  · rfl
  · exact h

/-- A waste valve that stays covered by the claim, or CLOSED, through a report (R101, R104). -/
theorem wasteReport_covered {v w : ValveId} {a b : ValveState} {s : State} (hw : isWaste w = true)
    (h : (s.valves.get w).state = .closed ∨ s.arb.claim.isHold = true) :
    (s.valves.get w).state = .closed ∨ (wasteReport v a b s).arb.claim.isHold = true := by
  rcases wasteReport_claim v a b s with e | ⟨-, hc⟩ | e
  · rw [e]; exact .inr rfl
  · exact ((claimCovers_iff .none _).2 (.inl hc) w hw).imp_right nofun
  · rw [e]; exact h

/-- A waste valve that leaves CLOSED is covered by its own report: outside STARTING the claim is HOLD after it (R86,
R101). -/
theorem wasteReport_covers {v : ValveId} {a b : ValveState} {s : State} (hv : isWaste v = true)
    (hs : s.cycle.state ≠ .starting) (hwash : s.cycle.state.washing = true → s.arb.claim.isHold = true)
    (ha : a = .closed ∨ s.arb.claim.isHold = true) (hb : (s.valves.get v).state = b) :
    b = .closed ∨ (wasteReport v a b s).arb.claim.isHold = true := by
  by_cases hc : b = .closed
  · exact .inl hc
  rcases ha with ha | hh
  · right
    have hreport : wasteReport v a b s = wasteLeftClosed s := by
      unfold wasteReport; rw [if_pos hv, if_pos (by simp [ha, hc])]
    rw [hreport]; unfold wasteLeftClosed
    split
    next hst =>
      rw [Bool.or_assoc, Bool.or_eq_true] at hst
      exact hwash (hst.resolve_left (by simpa using hs))
    · split
      next hh => exact hh
      · rfl
  · have := wasteReport_covered (v := v) (a := a) (b := b) (s := s) hv (.inr hh)
    rwa [hb] at this

theorem wasteReport_hold {v : ValveId} {a b : ValveState} {s : State} (hl : s.cycle.state ≠ .lockedOut)
    (h : s.arb.claim.isHold = true) : (wasteReport v a b s).arb.claim.isHold = true := by
  rcases wasteReport_cases v a b s with e | e | e <;> rw [e]
  · rcases wasteLeftClosed_cases s with e | e <;> rw [e]
    · exact h
    · rfl
  · rw [wasteBecameClosed_of_not_lockedOut hl]; exact h
  · exact h

/-! ### The commanding of a set -/

@[simp] theorem commandSet_valves (set : ValveSet) (s : State) : (commandSet set s).valves = s.valves.command set := by
  unfold commandSet; simp

/-- Every channel obeys the set it has just been commanded to (R57). -/
theorem obeys_command (set : ValveSet) (x : Valves) (v : ValveId) :
    obeys set (x.confirmations set) (x.command set) v = true := by
  rw [obeys_iff, Valves.confirmations_get, Valves.get_command]
  rcases (x.get v).command_cases (set v) with ⟨-, -, hst, -⟩ | ⟨hb, -, hst, -⟩ | ⟨hat, -, -, hst, -⟩
  · rw [hst]
    exact ⟨fun _ => rfl, .inl (settledAt_destination _)⟩
  · rw [hst]
    refine ⟨fun h => ?_, .inl rfl⟩
    rw [Valve.bothAsserted_of_atLimit h] at hb; cases hb
  · rw [hst]
    exact ⟨fun h => (by rw [hat] at h; cases h), .inr (towards_destination _)⟩

theorem commandSet_not_intent {s : State} (h : s.arb.claim.isIntent = false) (set : ValveSet) :
    (commandSet set s).arb.claim.isIntent = false :=
  wasteReport_not_intent (wasteReport_not_intent h)

theorem commandSet_hold {s : State} (hl : s.cycle.state ≠ .lockedOut) (h : s.arb.claim.isHold = true)
    (set : ValveSet) : (commandSet set s).arb.claim.isHold = true := by
  refine wasteReport_hold ?_ (wasteReport_hold hl h)
  rw [wasteReport_cycle]; exact hl

/-- The commanding of a set outside STARTING and LOCKED_OUT leaves the waste valves covered: one that leaves CLOSED
reports it (R67, R101). -/
theorem commandSet_covers {s : State} (hs : s.cycle.state ≠ .starting) (hl : s.cycle.state ≠ .lockedOut)
    (hw : s.cycle.state.washing = true → s.arb.claim.isHold = true) (hx : ClaimCovers s.arb.claim s.valves)
    (set : ValveSet) : ClaimCovers (commandSet set s).arb.claim (commandSet set s).valves := by
  have hout := wasteReport_covers (v := .washOut) (s := commandedTo set s) rfl hs hw (hx .washOut rfl) rfl
  have hold := wasteReport_hold (v := .washOut) (a := s.valves.washOut.state)
    (b := (s.valves.command set).washOut.state) (s := commandedTo set s) hl
  generalize hm : wasteReport .washOut s.valves.washOut.state (s.valves.command set).washOut.state
    (commandedTo set s) = m at hold
  have hv : m.valves = s.valves.command set := by rw [← hm]; exact wasteReport_valves _ _ _ _
  have hc : m.cycle.state = s.cycle.state := by rw [← hm, wasteReport_cycle]; rfl
  have hend : commandSet set s = wasteReport .rinse s.valves.rinse.state (s.valves.command set).rinse.state m := by
    rw [← hm]; rfl
  rw [commandSet_valves, hend]
  intro v hwaste
  cases v with
  | washOut =>
    rw [← hv]
    refine wasteReport_covered hwaste ?_
    rw [hv, ← hm]; exact hout
  | rinse =>
    refine wasteReport_covers rfl (hc ▸ hs) (fun h => hold (hw (hc ▸ h))) ((hx .rinse rfl).imp_right hold) ?_
    rw [hv]
  | inlet | outlet | washIn | air => cases hwaste

/-! ### Lockout, recovery, isolation, returning -/

/-- A HOLD may be released outside a wash with both waste valves CLOSED (R104). -/
theorem drainOk_releaseFinished {s : State} (h : DrainOk s) (hw : s.cycle.state.washing = false)
    (hi : s.arb.claim.isIntent = false) (hx : s.valves.wasteClosed = true) : DrainOk (releaseFinished s) where
  intent := ⟨nofun, fun hc => by rw [(DrainLawful.intent h).2 hc] at hi; cases hi⟩
  washing hc := absurd (hw.symm.trans hc) (by decide)
  starting hs := ⟨rfl, (DrainLawful.starting h hs).2⟩
  covers _ := (claimCovers_iff _ _).2 (.inl hx)
  obeyed := h.obeyed

theorem drainOk_releaseAtLockout {s : State} (h : DrainOk s) (hl : s.cycle.state = .lockedOut) :
    DrainOk (releaseAtLockout s) := by
  unfold releaseAtLockout; split
  next hc =>
    simp only [Bool.and_eq_true] at hc
    exact drainOk_releaseFinished h (by rw [hl]; rfl) (OwnClaim.isIntent_of_isHold hc.1) hc.2
  · exact h

/-- A stop leaves a CLOSED channel CLOSED (R59). -/
theorem Valve.stop_closed {c : Valve} (h : c.state = .closed) : c.stop.state = .closed := by
  unfold Valve.stop; rw [h]

/-- LOCKED_OUT is entered with a claim that is no INTENT and covers the waste valves (R27, R104). -/
theorem drainOk_lockOut {s : State} (hi : s.arb.claim.isIntent = false) (hx : ClaimCovers s.arb.claim s.valves) :
    DrainOk (lockOut s) := by
  have hstopped : ∀ u : State, u.arb = s.arb → u.valves = s.valves →
      DrainOk (releaseAtLockout ((enterState .lockedOut u).setValves (u.valves.map fun _ c => c.stop))) := by
    intro u ha hv
    refine drainOk_releaseAtLockout (.of_no_set ?_ ?_ ?_ ?_ fun v hw => ?_) ?_
    case refine_4 => rwa [State.setValves_arb, enterState_claim, ha]
    case refine_5 =>
      rw [State.setValves_arb, enterState_claim, ha, State.setValves_valves, Valves.get_map, hv]
      exact (hx v hw).imp_left Valve.stop_closed
    all_goals simp [commandedSet]
  unfold lockOut; simp only [enterState_valves]
  split <;> exact hstopped _ rfl rfl

theorem completeWash_valves (o : WashOutcome) (s : State) : (completeWash o s).valves = s.valves := by
  unfold completeWash; simp only [clearRunSeconds_eq]
  cases o <;> simp [WashOutcome.retained, WashOutcome.clean, clearOutcome, cleanBedSignal, clearDue, addRecord,
    setBackoff, releaseFinished, offerRelease, offer]

theorem completeWash_claim (o : WashOutcome) (s : State) : (completeWash o s).arb.claim = .none := by
  unfold completeWash; simp only [clearRunSeconds_eq]
  cases o <;> simp [WashOutcome.retained, WashOutcome.clean, clearOutcome, cleanBedSignal, clearDue, addRecord,
    setBackoff, releaseFinished]

/-- A wash completed with both waste valves CLOSED (R22, R103). -/
theorem drainOk_completeWash {s : State} (hx : s.valves.wasteClosed = true) (o : WashOutcome) :
    DrainOk (completeWash o s) := by
  refine .of_no_set ?_ ?_ ?_ (by rw [completeWash_claim]; rfl) ?_
  case refine_4 => rw [completeWash_valves]; exact (claimCovers_iff _ _).2 (.inl hx)
  all_goals rw [completeWash_state]; split <;> simp [commandedSet]

/-- A set that closes the waste valves has them CLOSED where it has settled (R2). -/
theorem DrainOk.wasteClosed {s : State} {set : ValveSet} (h : DrainOk s) (hc : commandedSet s.cycle.state = some set)
    (hset : s.settled = true) (ho : set .washOut = .closed) (hr : set .rinse = .closed) :
    s.valves.wasteClosed = true := by
  have hout : s.valves.washOut.state = settledAt (set .washOut) := h.settled hc hset .washOut
  have hrinse : s.valves.rinse.state = settledAt (set .rinse) := h.settled hc hset .rinse
  simp [Valves.wasteClosed, hout, hrinse, ho, hr, settledAt]

/-- RECOVERING ends with the waste valves CLOSED, and a HOLD released (R24, R104). -/
theorem drainOk_recoveringSettled {s : State} (h : DrainOk s) (hs : s.cycle.state = .recovering)
    (hset : s.settled = true) : DrainOk (recoveringSettled s) := by
  have hx : s.valves.wasteClosed = true := h.wasteClosed (by rw [hs]; rfl) hset rfl rfl
  have hi : s.arb.claim.isIntent = false := DrainLawful.not_intent h (by rw [hs]; decide)
  have hentered : ∀ new, new = .inService ∨ new = .waiting →
      DrainOk (if (enterState new s).arb.claim.isHold then releaseFinished (enterState new s) else enterState new s) := by
    intro new hnew
    have henter : DrainOk (enterState new s) := by
      have hx' : ClaimCovers s.arb.claim s.valves := (claimCovers_iff _ _).2 (.inl hx)
      rcases hnew with rfl | rfl
      · exact drainOk_enterState rfl nofun nofun hi hx'
      · exact drainOk_enterState rfl nofun nofun hi hx'
    split
    · refine drainOk_releaseFinished henter ?_ (by rwa [enterState_claim]) (by rwa [enterState_valves])
      rw [enterState_cycle]; rcases hnew with rfl | rfl <;> rfl
    · exact henter
  unfold recoveringSettled; simp only
  split
  · exact hentered _ (.inl rfl)
  · exact hentered _ (.inr rfl)

theorem drainOk_onSettled {s : State} (h : DrainOk s) (hset : s.settled = true) : DrainOk (onSettled s) := by
  unfold onSettled
  split
  next hs => exact drainOk_completeWash (h.wasteClosed (by rw [hs]; rfl) hset rfl rfl) _
  next hs => exact drainOk_recoveringSettled h hs hset
  next hs =>
    have hn : s.cycle.state ≠ .starting ∧ s.cycle.state ≠ .contest := by rw [hs]; decide
    exact drainOk_enterState rfl nofun nofun (DrainLawful.not_intent h hn.2) (DrainLawful.covers h hn.1)
  · exact h

/-- Entry into a state with a set, in a state that leaves the claim no INTENT and covering the waste valves: the set is
commanded to the channels, which obey it (R2, R67). -/
theorem drainOk_commandSet {s : State} {new : CycleState} {set : ValveSet} (hc : commandedSet new = some set)
    (hi : s.arb.claim.isIntent = false) (hw : new.washing = true → s.arb.claim.isHold = true)
    (hx : ClaimCovers s.arb.claim s.valves) : DrainOk (commandSet set (enterState new s)) := by
  have hn : new ≠ .starting ∧ new ≠ .lockedOut := by constructor <;> rintro rfl <;> cases hc
  refine .of_set (set := set) (by simpa using hc) (commandSet_not_intent (by simpa using hi) _) (fun h => ?_)
    (commandSet_covers ?_ ?_ ?_ ?_ _) fun v => ?_
  · exact commandSet_hold (by simpa using hn.2) (by simpa using hw (by simpa using h)) _
  · simpa using hn.1
  · simpa using hn.2
  · simpa using hw
  · simpa using hx
  · rw [commandSet_cycle, commandSet_valves]; exact obeys_command set _ v

theorem drainOk_enterCommanding {s : State} {new : CycleState} {set : ValveSet} (hc : commandedSet new = some set)
    (hi : s.arb.claim.isIntent = false) (hw : new.washing = true → s.arb.claim.isHold = true)
    (hx : ClaimCovers s.arb.claim s.valves) : DrainOk (enterCommanding new set s) := by
  have h := drainOk_commandSet hc hi hw hx
  have hn : new ≠ .starting ∧ new ≠ .contest := by constructor <;> rintro rfl <;> cases hc
  unfold enterCommanding; simp only
  split
  · exact drainOk_lockOut (DrainLawful.not_intent h (by simpa using hn.2)) (DrainLawful.covers h (by simpa using hn.1))
  · split
    next hset => exact drainOk_onSettled h hset
    · exact h

theorem drainOk_enterRecovering {s : State} (hi : s.arb.claim.isIntent = false)
    (hx : ClaimCovers s.arb.claim s.valves) : DrainOk (enterRecovering s) := drainOk_enterCommanding rfl hi nofun hx

/-! ### The wash -/

theorem ClaimCovers.of_hold {claim : OwnClaim} (h : claim.isHold = true) (x : Valves) : ClaimCovers claim x :=
  fun _ _ => .inr h

/-- A HOLD covers RETURNING, however the wash ends (R86). -/
theorem drainOk_enterReturning {s : State} (h : s.arb.claim.isHold = true) : DrainOk (enterReturning s) :=
  drainOk_enterCommanding rfl (OwnClaim.isIntent_of_isHold h) (fun _ => h) (.of_hold h _)

theorem drainOk_cutShort {s : State} (h : s.arb.claim.isHold = true) (o : WashOutcome) : DrainOk (cutShort o s) := by
  rw [cutShort_eq]; exact drainOk_enterReturning (s := cutShortAs o s) h

/-- The set of a wash step is the one that the step commands (R2). -/
theorem commandedSet_of_washStep {step : CycleState} (h : step.washStep = true) :
    commandedSet step = some (stepSet step) := by
  cases step <;> first | rfl | cases h

theorem drainOk_enterStep {s : State} {step : CycleState} (hs : step.washStep = true)
    (h : s.arb.claim.isHold = true) : DrainOk (enterStep step s) := by
  have hstep := drainOk_commandSet (commandedSet_of_washStep hs) (OwnClaim.isIntent_of_isHold h) (fun _ => h)
    (.of_hold h _)
  unfold enterStep; simp only
  split
  · refine drainOk_cutShort (DrainLawful.washing hstep ?_) _
    simp [CycleState.washing, hs]
  · exact hstep

theorem drainOk_endBackwash {s : State} (h : s.arb.claim.isHold = true) (o : WashOutcome) :
    DrainOk (endBackwash o s) := by
  rw [endBackwash_eq]; exact drainOk_enterStep (s := cutShortAs o s) rfl h

/-- The claim is HOLD in a wash step (R86). -/
theorem DrainOk.hold_of_washStep {s : State} (h : DrainOk s) (hs : s.cycle.state.washStep = true) :
    s.arb.claim.isHold = true := DrainLawful.washing h (by simp [CycleState.washing, hs])

end Sys2Proof.Machine
end

section
/-! SUPPORT. The drain law through a channel's own event (R66, R67): a channel that confirms has arrived where its set
sends it, one that leaves CLOSED for another state has faulted, and the claim covers either. -/

namespace Sys2Proof.Machine

/-! ### A channel's own change -/

/-- What a channel can do of its own: stay in its state or come to rest in another without a report, but never leave a
position it is settled at; arrive where it travels and confirm; or fault (R58, R60 to R65). -/
inductive ValveChange (before : ValveState) : Valve × Report → Prop where
  | stays {d : Valve} (hd : d.state = before) : ValveChange before (d, .none)
  | rests {d : Valve} (hb : ∀ p, before ≠ settledAt p) (hd : d.state.destination = none) : ValveChange before (d, .none)
  | arrives {d : Valve} {p : Position} (hb : before = towards p) (hd : d.state = settledAt p) :
      ValveChange before (d, .confirmation)
  | faults {d : Valve} : ValveChange before (d, .fault)

/-- A channel in FAULT or STOPPED is settled nowhere. -/
theorem ValveState.not_settled_of_isFault {x : ValveState} (h : x.isFault = true) (p : Position) :
    x ≠ settledAt p := by
  rintro rfl; cases p <;> cases h

theorem valveChange_switchChanged (c : Valve) (p : Position) (level : Bool) :
    ValveChange c.state (c.switchChanged p level) := by
  unfold Valve.switchChanged
  split
  · split
    next hf => exact .rests (ValveState.not_settled_of_isFault hf) rfl
    · exact .faults
  · split
    case h_1 | h_2 =>
      split
      next h =>
        simp only [Bool.and_eq_true, decide_eq_true_eq] at h
        exact .arrives h.2 rfl
      · exact .stays rfl
    case h_3 | h_4 =>
      split
      · exact .faults
      · exact .stays rfl
    case h_5 h =>
      have hb : ∀ q, c.state ≠ settledAt q := fun q => by rw [h]; cases q <;> nofun
      split
      · exact .rests hb rfl
      · split
        · exact .rests hb rfl
        · exact .stays rfl
    case h_6 => exact .stays rfl

theorem ValveState.destination_eq_some {x : ValveState} {p : Position} (h : x.destination = some p) :
    x = towards p := by
  cases x <;> cases p <;> first | rfl | cases h

theorem valveChange_endPause (c : Valve) : ValveChange c.state c.endPause := by
  unfold Valve.endPause
  split
  next p hp =>
    have ht := ValveState.destination_eq_some hp
    split
    · exact .arrives ht rfl
    · exact .stays ht.symm
  · exact .stays rfl

/-! ### The arbiter's part -/

/-- Channel `v` has changed to `d`, and a waste valve has reported to the arbiter (R67). -/
def channelChanged (v : ValveId) (d : Valve) (s : State) : State :=
  wasteReport v (s.valves.get v).state d.state (s.setValves (s.valves.set v d))

theorem channelEvent_none (v : ValveId) (d : Valve) (s : State) :
    channelEvent v (d, .none) s = channelChanged v d s := rfl

theorem channelEvent_confirmation (v : ValveId) (d : Valve) (s : State) :
    channelEvent v (d, .confirmation) s = valveConfirmed v (channelChanged v d s) := rfl

theorem channelEvent_fault (v : ValveId) (d : Valve) (s : State) :
    channelEvent v (d, .fault) s = valveFault (channelChanged v d s) := rfl

@[simp] theorem channelChanged_cycle (v : ValveId) (d : Valve) (s : State) :
    (channelChanged v d s).cycle = s.cycle := by unfold channelChanged; simp

@[simp] theorem channelChanged_valves (v : ValveId) (d : Valve) (s : State) :
    (channelChanged v d s).valves = s.valves.set v d := by unfold channelChanged; simp

/-- Whatever a channel does outside STARTING, the claim covers the waste valves after it (R101). -/
theorem channelChanged_covers {s : State} (h : DrainOk s) (hs : s.cycle.state ≠ .starting) (v : ValveId) (d : Valve) :
    ClaimCovers (channelChanged v d s).arb.claim (channelChanged v d s).valves := by
  have hx : ClaimCovers s.arb.claim s.valves := DrainLawful.covers h hs
  intro w hw
  rw [channelChanged_valves, Valves.get_set]
  unfold channelChanged
  by_cases hwv : w = v
  · subst hwv
    rw [if_pos rfl]
    exact wasteReport_covers hw hs (DrainLawful.washing h) (hx w hw) (by simp)
  · have := wasteReport_covered (v := v) (a := (s.valves.get v).state) (b := d.state)
      (s := s.setValves (s.valves.set v d)) hw (by simpa [hwv] using hx w hw)
    simpa [hwv] using this

theorem channelChanged_hold {s : State} (h : DrainOk s) (hw : s.cycle.state.washing = true) (v : ValveId) (d : Valve) :
    (channelChanged v d s).arb.claim.isHold = true :=
  wasteReport_hold (by rintro hl; rw [State.setValves_cycle] at hl; rw [hl] at hw; cases hw) (DrainLawful.washing h hw)

/-- A claim that is an INTENT after a channel's change is that of a contest (R86). -/
theorem channelChanged_intent {s : State} (h : DrainOk s) {v : ValveId} {d : Valve}
    (hi : (channelChanged v d s).arb.claim.isIntent = true) : s.cycle.state = .contest := by
  refine Decidable.byContradiction fun hc => ?_
  have : (channelChanged v d s).arb.claim.isIntent = false :=
    wasteReport_not_intent (DrainLawful.not_intent h hc)
  rw [this] at hi; cases hi

/-! ### The channels still obey their set -/

/-- A channel whose state stays, or that comes to rest from where it was not settled, obeys the set as before. -/
theorem obeys_set {set : ValveSet} {confirmed : ValveFlags} {x : Valves} {v : ValveId} {d : Valve}
    (h : ∀ w, obeys set confirmed x w = true)
    (hd : d.state = (x.get v).state ∨ ((∀ p, (x.get v).state ≠ settledAt p) ∧ d.state.destination = none))
    (w : ValveId) : obeys set confirmed (x.set v d) w = true := by
  have hw := (obeys_iff _ _ _ _).1 (h w)
  rw [obeys_iff, Valves.get_set]
  split
  next hwv =>
    subst hwv
    rcases hd with hd | ⟨hb, hd⟩
    · rwa [hd]
    · exact ⟨fun hf => absurd (hw.1 hf) (hb _), .inl hd⟩
  · exact hw

/-- A channel that arrives where it travelled has arrived where its set sends it, and confirms (R60). -/
theorem obeys_arrived {set : ValveSet} {confirmed : ValveFlags} {x : Valves} {v : ValveId} {d : Valve} {p : Position}
    (h : ∀ w, obeys set confirmed x w = true) (hb : (x.get v).state = towards p) (hd : d.state = settledAt p)
    (w : ValveId) : obeys set (confirmed.mark v) (x.set v d) w = true := by
  have hw := (obeys_iff _ _ _ _).1 (h w)
  rw [obeys_iff, Valves.get_set, ValveFlags.get_mark]
  split
  next hwv =>
    subst hwv
    have hp : p = set w := by simpa [hb] using hw.2
    rw [hd, ← hp]
    exact ⟨fun _ => rfl, .inl (settledAt_destination p)⟩
  next hwv => simpa [hwv] using hw

/-- The law once a channel has changed without leaving a position it was settled at: no forced hold comes of it. -/
theorem drainLawful_channelChanged {s : State} (h : DrainOk s) (hs : s.cycle.state ≠ .starting) {v : ValveId} {d : Valve}
    {confirmed : ValveFlags} (hleft : (s.valves.get v).state = .closed → d.state = .closed)
    (ho : ∀ set, commandedSet s.cycle.state = some set → ∀ w, obeys set confirmed (s.valves.set v d) w = true) :
    DrainLawful (channelChanged v d s).arb.claim s.cycle.state confirmed (channelChanged v d s).valves := by
  have hx := channelChanged_covers h hs v d
  by_cases hl : s.cycle.state = .lockedOut
  · have hn : s.arb.claim.isIntent = false := DrainLawful.not_intent h (by rw [hl]; decide)
    exact .of_no_set (by rw [hl]; rfl) hs (by rw [hl]; decide) (wasteReport_not_intent hn) hx
  · have hsame : channelChanged v d s = s.setValves (s.valves.set v d) :=
      wasteReport_eq_self hl (.inr fun _ => hleft)
    rw [hsame] at hx ⊢
    exact { intent := h.intent, washing := h.washing, starting := fun hst => absurd hst hs, covers := fun _ => hx,
            obeyed := ho }

/-! ### The cycle controller's part -/

theorem drainOk_valveConfirmed {s : State} {v : ValveId}
    (h : DrainOk (s.setCycle { s.cycle with confirmed := s.cycle.confirmed.mark v })) : DrainOk (valveConfirmed v s) := by
  unfold valveConfirmed; simp only
  split
  next hset =>
    rw [Bool.and_eq_true] at hset
    exact drainOk_onSettled h hset.2
  · exact h

/-- A fault is taken with the waste valves covered: a contest ends, a wash step is cut short under its HOLD, and the
states with a set are locked out (R20, R23, R27, R28, R97). -/
theorem drainOk_valveFault {s : State} (hs : s.cycle.state ≠ .starting)
    (hi : s.arb.claim.isIntent = true → s.cycle.state = .contest)
    (hw : s.cycle.state.washing = true → s.arb.claim.isHold = true) (hx : ClaimCovers s.arb.claim s.valves) :
    DrainOk (valveFault s) := by
  have hn : s.cycle.state ≠ .contest → s.arb.claim.isIntent = false := fun hc => by
    rw [Bool.eq_false_iff]; exact fun h => hc (hi h)
  unfold valveFault
  cases hst : s.cycle.state with
  | starting => exact absurd hst hs
  | lockedOut =>
    refine .of_no_set ?_ hs ?_ (hn ?_) hx <;> rw [hst]
    · rfl
    · decide
    · decide
  | inService | waiting => exact drainOk_enterRecovering (hn (by rw [hst]; decide)) hx
  | contest =>
    show DrainOk (enterRecovering (endContestAtFault s))
    unfold endContestAtFault
    split
    next hint =>
      refine drainOk_enterRecovering rfl fun v hv => (hx v hv).imp_right fun hh => ?_
      rw [OwnClaim.isIntent_of_isHold hh] at hint; cases hint
    next hint => exact drainOk_enterRecovering (Bool.eq_false_iff.2 hint) hx
  | drainDown | airScour | backwash | settle | rinse => exact drainOk_cutShort (hw (by rw [hst]; rfl)) _
  | recovering | returning | isolating | isolated => exact drainOk_lockOut (hn (by rw [hst]; decide)) hx

/-- A channel's own event outside STARTING keeps the drain law. -/
theorem drainOk_channelEvent {s : State} (h : DrainOk s) (hs : s.cycle.state ≠ .starting) {v : ValveId}
    {change : Valve × Report} (hc : ValveChange (s.valves.get v).state change) : DrainOk (channelEvent v change s) := by
  cases hc with
  | stays hd =>
    unfold DrainOk; rw [channelEvent_none, channelChanged_cycle]
    exact drainLawful_channelChanged h hs (fun hb => hd.trans hb) fun set hset =>
      obeys_set (DrainLawful.obeyed h set hset) (.inl hd)
  | rests hb hd =>
    unfold DrainOk; rw [channelEvent_none, channelChanged_cycle]
    exact drainLawful_channelChanged h hs (fun hc => absurd hc (hb .closed)) fun set hset =>
      obeys_set (DrainLawful.obeyed h set hset) (.inr ⟨hb, hd⟩)
  | arrives hb hd =>
    rw [channelEvent_confirmation]
    refine drainOk_valveConfirmed ?_
    rw [channelChanged_cycle]
    refine drainLawful_channelChanged h hs (fun hc => ?_) fun set hset =>
      obeys_arrived (DrainLawful.obeyed h set hset) hb hd
    exact absurd (hb.symm.trans hc) (towards_ne_settledAt _ .closed)
  | faults =>
    rw [channelEvent_fault]
    refine drainOk_valveFault (by simpa using hs) (fun hi => ?_) (fun hw => ?_) (channelChanged_covers h hs _ _)
    · rw [channelChanged_cycle]; exact channelChanged_intent h hi
    · exact channelChanged_hold h (by simpa using hw) _ _

end Sys2Proof.Machine
end

section
/-! SUPPORT. Every command and every tick keeps the drain law: the contest, the bodies of the events one by one, what
arrives, and the step. -/

namespace Sys2Proof.Machine

/-! ### What the law does not read -/

/-- `t` has the cycle, the channels and the arbiter of `s`. -/
structure KeepsWash (s t : State) : Prop where
  cycle  : t.cycle = s.cycle
  valves : t.valves = s.valves
  arb    : t.arb = s.arb

theorem KeepsWash.trans {s t u : State} (h : KeepsWash s t) (k : KeepsWash t u) : KeepsWash s u :=
  ⟨k.cycle.trans h.cycle, k.valves.trans h.valves, k.arb.trans h.arb⟩

theorem DrainOk.of_keepsWash {s t : State} (h : DrainOk s) (k : KeepsWash s t) : DrainOk t := by
  unfold DrainOk; rw [k.cycle, k.valves, k.arb]; exact h

/-- Of the cycle the law reads the state and the confirmations. -/
theorem DrainOk.setCycle {s : State} (h : DrainOk s) {c : Cycle} (hs : c.state = s.cycle.state)
    (hc : c.confirmed = s.cycle.confirmed) : DrainOk (s.setCycle c) := by
  unfold DrainOk; rw [State.setCycle_cycle, hs, hc]; exact h

/-- Of the channels it reads the states. -/
theorem DrainOk.setValves {s : State} (h : DrainOk s) {x : Valves}
    (hx : ∀ v, (x.get v).state = (s.valves.get v).state) : DrainOk (s.setValves x) where
  intent := h.intent
  washing := h.washing
  starting hs := ⟨(DrainLawful.starting h hs).1, fun v => (hx v).trans ((DrainLawful.starting h hs).2 v)⟩
  covers hs v hv := by rw [State.setValves_valves, hx]; exact DrainLawful.covers h hs v hv
  obeyed set hset v := by
    have hv := (obeys_iff _ _ _ _).1 (DrainLawful.obeyed h set hset v)
    rw [← hx] at hv
    exact (obeys_iff _ _ _ _).2 hv

/-- Of the arbiter it reads the claim. -/
theorem DrainOk.setArb {s : State} (h : DrainOk s) {x : Arbiter} (hx : x.claim = s.arb.claim) : DrainOk (s.setArb x) := by
  unfold DrainOk; rw [State.setArb_arb, hx]; exact h

/-! ### The contest -/

/-- In CONTEST the claim is an INTENT, so that both waste valves are CLOSED (R86, R101). -/
theorem DrainOk.covers_of_contest {s : State} (h : DrainOk s) (hs : s.cycle.state = .contest) (claim : OwnClaim) :
    ClaimCovers claim s.valves := by
  have hi := (DrainLawful.intent h).2 hs
  intro v hv
  refine .inl ((DrainLawful.covers h (by rw [hs]; decide) v hv).resolve_right fun hh => ?_)
  rw [OwnClaim.isIntent_of_isHold hh] at hi; cases hi

/-- An INTENT is formed in WAITING with the claim NONE, and CONTEST entered (R8, R92). -/
theorem drainOk_enterContest {s : State} (h : DrainOk s) (hs : s.cycle.state = .waiting) (hn : s.arb.claim = .none) :
    DrainOk (enterContest s) := by
  have hx : ClaimCovers s.arb.claim s.valves := DrainLawful.covers h (by rw [hs]; decide)
  rw [enterContest_eq hs]
  exact { intent := ⟨fun _ => rfl, fun _ => rfl⟩, washing := nofun, starting := nofun, obeyed := nofun
          covers := fun _ v hv => .inl ((hx v hv).resolve_right (by rw [hn]; decide)) }

theorem drainOk_tryContest {s : State} (h : DrainOk s) : DrainOk (tryContest s) := by
  unfold tryContest; split
  next hc =>
    simp only [Bool.and_eq_true, decide_eq_true_eq] at hc
    exact drainOk_enterContest h hc.1.1.1 hc.1.1.2
  · exact h

/-- A contest that ends leaves the claim NONE, in a state without a set (R10, R12, R96). -/
theorem drainOk_contestEnds {s u : State} (h : DrainOk s) (hs : s.cycle.state = .contest) {new : CycleState}
    (hc : commandedSet new = none) (hst : new ≠ .starting) (hn : new ≠ .contest) (hu : u.arb.claim = .none)
    (hv : u.valves = s.valves) : DrainOk (enterState new u) :=
  drainOk_enterState hc hst hn (by rw [hu]; rfl) (by rw [hv]; exact h.covers_of_contest hs _)

theorem drainOk_loseContest {s : State} (h : DrainOk s) (hs : s.cycle.state = .contest) (counted : Bool) :
    DrainOk (loseContest counted s) := by
  unfold loseContest; simp only
  split <;> exact drainOk_contestEnds h hs rfl nofun nofun rfl rfl

theorem drainOk_endContestUncounted {s : State} (h : DrainOk s) : DrainOk (endContestUncounted s) := by
  unfold endContestUncounted; split
  next hc => exact drainOk_loseContest h (inContest_state hc) _
  · exact h

theorem drainOk_takeOverlap {s : State} (h : DrainOk s) (e : PeerEntry) : DrainOk (takeOverlap e s) := by
  have hcut : s.cycle.state.washStep = true → ∀ x : Arbiter, x.claim = s.arb.claim →
      DrainOk (cutShort .yielded (s.setArb x)) := fun hs x hx =>
    drainOk_cutShort (by rw [State.setArb_arb, hx]; exact h.hold_of_washStep hs) _
  unfold takeOverlap; simp only
  split
  next hc =>
    refine hcut ?_ _ rfl
    simp only [Bool.and_eq_true, Bool.or_eq_true, decide_eq_true_eq] at hc
    rcases hc.1 with hs | hs <;> rw [hs] <;> rfl
  · exact h

theorem drainOk_changeReport {s : State} (h : DrainOk s) (e : Option PeerEntry) : DrainOk (changeReport e s) := by
  unfold changeReport
  split
  next hc =>
    split
    · exact h
    · exact drainOk_loseContest h (inContest_state hc) _
  · split
    · split
      · exact h
      · split
        · exact h
        · exact drainOk_takeOverlap h _
    · exact drainOk_tryContest h

theorem drainOk_linkOffReport {s : State} (h : DrainOk s) : DrainOk (linkOffReport s) := by
  unfold linkOffReport
  split
  next hs => exact drainOk_cutShort (h.hold_of_washStep hs) _
  · split
    next hs =>
      rw [if_pos ((DrainLawful.intent h).2 hs)]
      exact drainOk_contestEnds h hs rfl nofun nofun rfl rfl
    · exact h

/-! ### Due reasons and the second tick -/

theorem drainOk_raiseDue {s : State} (h : DrainOk s) (hs : s.cycle.state = .inService) (r : DueReason) :
    DrainOk (raiseDue r s) := by
  have hn : s.cycle.state ≠ .starting ∧ s.cycle.state ≠ .contest := by rw [hs]; decide
  exact drainOk_enterState rfl nofun nofun (DrainLawful.not_intent h hn.2) (DrainLawful.covers h hn.1)

theorem drainOk_evaluateDue {s : State} (h : DrainOk s) : DrainOk (evaluateDue s) := by
  unfold evaluateDue; simp only
  split
  next hs =>
    split
    · exact h
    · exact drainOk_raiseDue h hs _
  · split
    · exact h.setCycle rfl rfl
    · exact h
  · split
    · exact h.setCycle rfl rfl
    · exact h
  · exact h

theorem Cycle.countWait_confirmed (c : Cycle) : c.countWait.confirmed = c.confirmed := by
  unfold Cycle.countWait; split <;> rfl

theorem drainOk_cycleSecond {s : State} (h : DrainOk s) : DrainOk (cycleSecond s) := by
  cases hf : s.cycle.state.filtering with
  | false => rw [cycleSecond_not_filtering hf]; exact h
  | true =>
    by_cases hw : s.cycle.state = .waiting
    · rw [cycleSecond_of_waiting hw]
      exact drainOk_evaluateDue (h.setCycle (Cycle.countWait_state _) (Cycle.countWait_confirmed _))
    · rw [cycleSecond_of_filtering hf hw]
      exact drainOk_evaluateDue (h.setCycle rfl rfl)

theorem drainOk_operatorWash {s : State} (h : DrainOk s) : DrainOk (operatorWash s) := by
  unfold operatorWash; split
  next hs => exact drainOk_raiseDue h hs _
  · exact h.setCycle rfl rfl
  · exact h.setCycle rfl rfl
  · exact h

theorem dosingSecond_valves (s : State) : (dosingSecond s).valves = s.valves := by
  have hown : (sampleOwnChannels s).valves = s.valves := by unfold sampleOwnChannels; split <;> rfl
  have hperiod : ∀ u, (countReadingPeriod u).valves = u.valves := by
    intro u; unfold countReadingPeriod
    split
    · split <;> rfl
    · rfl
  rw [dosingSecond, decideDosing, State.setDose_valves, hperiod, hown]

theorem drainOk_secondWork {s : State} (h : DrainOk s) : DrainOk (secondWork s) :=
  (drainOk_tryContest (drainOk_cycleSecond (s := scannerSecond s) h)).of_keepsWash
    ⟨dosingSecond_cycle _, dosingSecond_valves _, dosingSecond_arb _⟩

/-! ### The bodies of the events -/

theorem drainOk_event {b : Bool} {body : State → State} {s t : State} (h : DrainOk s) (hb : DrainOk (body s))
    (he : event b body s = .next t) : DrainOk t := by
  rcases event_cases he with ⟨-, rfl⟩ | ⟨-, rfl⟩
  · exact h
  · rw [finish_eq]; exact hb

theorem drainOk_secondAt {happens : Bool} {s t : State} (h : DrainOk s) (he : secondAt happens s = .next t) :
    DrainOk t := by
  rcases secondAt_cases happens s with hc | hc <;> rw [hc] at he
  · exact drainOk_event h (drainOk_secondWork h) he
  · cases he; exact h

theorem drainOk_whenDue {due : Bool} {effect : State → State} {s : State} (h : DrainOk s)
    (he : due = true → DrainOk (effect s)) : DrainOk (whenDue due effect s) := by
  unfold whenDue; split
  next hd => exact he hd
  · exact h

/-- After a reset the claim is NONE and every channel provisionally STOPPED (R53, R85). -/
theorem drainOk_resetStation (k : ResetKind) (s : State) : DrainOk (resetStation k s) where
  intent := ⟨nofun, nofun⟩
  washing := nofun
  starting _ := ⟨rfl, fun v => congrArg Valve.state (Valves.get_map s.valves _ v)⟩
  covers h := absurd rfl h
  obeyed := nofun

theorem drainOk_settleLoad {s : State} (h : DrainOk s) (acks : Bool) (block : List Byte) :
    DrainOk (settleLoad acks block s) := by
  unfold settleLoad; split <;> exact h

/-- The start survey leaves the claim a HOLD where a waste valve is not CLOSED (R102). -/
theorem arbiterSurvey_covers {s : State} (hi : s.arb.claim.isIntent = false) :
    (arbiterSurvey s).arb.claim.isIntent = false
      ∧ ClaimCovers (arbiterSurvey s).arb.claim (arbiterSurvey s).valves := by
  unfold arbiterSurvey; split
  next hx => exact ⟨hi, (claimCovers_iff _ _).2 (.inl hx)⟩
  · exact ⟨rfl, .of_hold rfl _⟩

theorem drainOk_endStarting {s : State} (h : DrainOk s) : DrainOk (endStarting s) := by
  unfold endStarting; split
  next hover =>
    simp only [startingOver, Bool.and_eq_true, decide_eq_true_eq] at hover
    have hn : s.arb.claim = .none := (DrainLawful.starting h hover.1.1).1
    obtain ⟨hi, hx⟩ := arbiterSurvey_covers (s := s.setValves (s.valves.map fun _ c => c.survey))
      (by rw [State.setValves_arb, hn]; rfl)
    exact drainOk_enterRecovering hi hx
  · exact h

theorem drainOk_takeConversion {s : State} (h : DrainOk s) (ch : ChannelId) (count : BitVec 12) :
    DrainOk (takeConversion ch count s) := by
  have hjudge : ∀ (c : Cycle) r level, (c.judgeClear r level).state = c.state
      ∧ (c.judgeClear r level).confirmed = c.confirmed := by
    intro c r level; unfold Cycle.judgeClear
    split
    · split <;> exact ⟨rfl, rfl⟩
    · exact ⟨rfl, rfl⟩
  have hafter : ∀ u : State, DrainOk u → DrainOk (afterConversion ch u) := by
    intro u hu
    unfold afterConversion; split
    · split <;> exact hu
    · exact hu.setCycle (hjudge _ _ _).1 (hjudge _ _ _).2
    all_goals exact hu
  unfold takeConversion; simp only
  split
  · exact hafter _ h
  · exact h

/-- A channel that travels is none of STARTING (R53). -/
theorem DrainOk.not_starting {s : State} (h : DrainOk s) {v : ValveId} (hv : (s.valves.get v).state.travelling = true) :
    s.cycle.state ≠ .starting := by
  intro hs
  rw [(DrainLawful.starting h hs).2 v] at hv; cases hv

theorem Valve.travelling_of_driven {c : Valve} (h : c.driven = true) : c.state.travelling = true := by
  simp only [Valve.driven, Valve.openDrive, Valve.closeDrive, Bool.or_eq_true, Bool.and_eq_true, decide_eq_true_eq] at h
  rcases h with h | h <;> rw [h.1] <;> rfl

/-- A switch of a channel takes a level: its state does not change by that alone. -/
theorem setSwitch_state (x : Valves) (v : ValveId) (p : Position) (l : DebouncedLine) (w : ValveId) :
    ((x.set v ((x.get v).setSwitch p l)).get w).state = (x.get w).state := by
  rw [Valves.get_set]; split
  next hw => rw [hw, Valve.setSwitch_state]
  · rfl

theorem drainOk_takeSwitch {s : State} (h : DrainOk s) (v : ValveId) (p : Position) (level : Bool) :
    DrainOk (takeSwitch v p level s) := by
  unfold takeSwitch; simp only
  split
  · exact h.setValves (setSwitch_state _ _ _ _)
  · split
    · exact h.setValves (setSwitch_state _ _ _ _)
    next hs =>
      refine drainOk_channelEvent h hs ?_
      have hc := valveChange_switchChanged ((s.valves.get v).setSwitch p (.changeTo level)) p level
      rwa [Valve.setSwitch_state] at hc

theorem drainOk_risingEdge {s : State} (h : DrainOk s) (i : DiscreteInput) : DrainOk (risingEdge i s) := by
  cases i with
  | manualWash =>
    simp only [risingEdge, pressManualWash]; split
    · exact h
    · exact drainOk_operatorWash h
  | inhibitKey =>
    simp only [risingEdge, keyAsserts]; split
    · exact h
    · exact drainOk_endContestUncounted h
  | tankLow =>
    simp only [risingEdge, tankRunsLow]; split
    next hs => exact drainOk_cutShort (h.hold_of_washStep hs) _
    · exact drainOk_endContestUncounted h
  | flowOk | doseFb => exact h

theorem drainOk_takeInput {s : State} (h : DrainOk s) (i : DiscreteInput) (level : Bool) :
    DrainOk (takeInput i level s) := by
  unfold takeInput; simp only
  split
  · exact h
  · split
    · exact drainOk_risingEdge (s := s.setInputs (s.inputs.set i (.changeTo level))) h i
    · exact h

/-- The end of a wash step's time comes under the HOLD of the wash (R86). -/
theorem drainOk_of_stepDone {s : State} (h : DrainOk s) {step : CycleState} {seconds : Nat} {effect : State → State}
    (hw : step.washStep = true) (he : s.arb.claim.isHold = true → DrainOk (effect s)) :
    DrainOk (whenDue (stepDone step seconds s) effect s) :=
  drainOk_whenDue h fun hd => he (h.hold_of_washStep (by rw [((stepDone_iff _ _ _).1 hd).1]; exact hw))

theorem drainOk_clearHoldReached {s : State} (h : DrainOk s) : DrainOk (clearHoldReached s) :=
  drainOk_whenDue h fun hc => drainOk_endBackwash (h.hold_of_washStep (by rw [backwashClear_state hc]; rfl)) _

theorem drainOk_backwashOver {s : State} (h : DrainOk s) : DrainOk (backwashOver s) := by
  unfold backwashOver; split
  next hc => exact drainOk_endBackwash (h.hold_of_washStep (by rw [backwashClear_state hc]; rfl)) _
  · exact drainOk_of_stepDone h rfl fun hh => drainOk_endBackwash hh _

/-! ### What arrives -/

/-- What the table's events make of `s`: a state with its cycle, channels and arbiter, or what a change report makes of
such a state (R81). -/
def Reports (s t : State) : Prop := ∃ u, KeepsWash s u ∧ (t = u ∨ ∃ e, t = changeReport e u)

theorem Reports.of_keepsWash {s t : State} (h : KeepsWash s t) : Reports s t := ⟨t, h, .inl rfl⟩

theorem Reports.after {s t u : State} (k : Reports t u) (h : KeepsWash s t) : Reports s u := by
  obtain ⟨w, hw, hu⟩ := k
  exact ⟨w, h.trans hw, hu⟩

theorem DrainOk.of_reports {s t : State} (h : DrainOk s) (k : Reports s t) : DrainOk t := by
  obtain ⟨u, hu, rfl | ⟨e, rfl⟩⟩ := k
  · exact h.of_keepsWash hu
  · exact drainOk_changeReport (h.of_keepsWash hu) e

theorem Reports.refl (s : State) : Reports s s := .of_keepsWash ⟨rfl, rfl, rfl⟩

theorem reports_changeEntry (p : Nat) (new : Option PeerEntry) (b : Bool) (s : State) :
    Reports s (changeEntry p new b s) :=
  ⟨withEntry p new s, ⟨rfl, rfl, rfl⟩, (changeEntry_cases p new b s).imp_right fun h => ⟨_, h⟩⟩

theorem reports_lapseStatus (p : Nat) (s : State) : Reports s (lapseStatus p s) := by
  unfold lapseStatus; split
  · split
    · exact (reports_changeEntry _ _ _ _).after ⟨rfl, rfl, rfl⟩
    · exact .refl s
  · exact .refl s

theorem reports_lapseIntent (p : Nat) (s : State) : Reports s (lapseIntent p s) := by
  unfold lapseIntent; split
  · split
    · exact reports_changeEntry _ _ _ _
    · exact .refl s
  · exact .refl s

theorem reports_lapseHold (p : Nat) (s : State) : Reports s (lapseHold p s) := by
  unfold lapseHold; split
  · split
    · exact (reports_changeEntry _ _ _ _).after ⟨rfl, rfl, rfl⟩
    · exact .refl s
  · exact .refl s

theorem reports_formatError (s : State) : Reports s (formatError s) := .of_keepsWash ⟨rfl, rfl, rfl⟩

theorem reports_receiveClaim (p g : Nat) (data : List Byte) (s : State) : Reports s (receiveClaim p g data s) := by
  unfold receiveClaim
  split
  · exact reports_formatError s
  · split
    · split
      · exact reports_formatError s
      · exact reports_changeEntry _ _ _ _
    · split
      · exact reports_formatError s
      · exact reports_changeEntry _ _ _ _
    · split
      · exact reports_formatError s
      · exact reports_changeEntry _ _ _ _
    · exact reports_formatError s

theorem reports_receiveReading (p g : Nat) (data : List Byte) (s : State) : Reports s (receiveReading p g data s) := by
  have hpeer : ∀ u, Reports u (peerReading p g u) := by
    intro u; unfold peerReading
    split
    · exact .refl u
    · exact reports_changeEntry _ _ _ _
  unfold receiveReading
  split
  · exact reports_formatError s
  · split
    · exact reports_formatError s
    · exact (hpeer _).after ⟨rfl, rfl, rfl⟩

theorem reports_receiveStatus (p g : Nat) (data : List Byte) (s : State) : Reports s (receiveStatus p g data s) := by
  unfold receiveStatus
  split
  · exact reports_formatError s
  · split
    · exact reports_formatError s
    · exact reports_changeEntry _ _ _ _

/-- What an arrival makes of `s`: an event of the peer table at most, or what a request that is taken does (R130,
R144). -/
def Received (s t : State) : Prop :=
  Reports s t ∨ ∃ panel rc arg, judgeRequest rc arg s = .taken ∧ t = takeRequest panel rc arg s

theorem Received.of_keepsWash {s t : State} (h : KeepsWash s t) : Received s t := .inl (.of_keepsWash h)

theorem received_handleRequest (panel code arg : Nat) (s : State) : Received s (handleRequest panel code arg s) := by
  unfold handleRequest
  split
  · exact .of_keepsWash ⟨rfl, rfl, rfl⟩
  · split
    · exact .of_keepsWash ⟨rfl, rfl, rfl⟩
    · split
      · exact .of_keepsWash ⟨rfl, rfl, rfl⟩
      · split
        next hj => exact .inr ⟨_, _, _, hj, rfl⟩
        all_goals exact .of_keepsWash ⟨rfl, rfl, rfl⟩

theorem received_judgeFrame (kind g p : Nat) (data : List Byte) (s : State) :
    Received s (judgeFrame kind g p data s) := by
  have hnone : Received s s := .of_keepsWash ⟨rfl, rfl, rfl⟩
  unfold judgeFrame
  split
  · exact hnone
  split
  · exact .of_keepsWash ⟨rfl, rfl, rfl⟩
  split
  · exact .inl (reports_receiveClaim _ _ _ _)
  split
  · split
    · exact .inl (reports_receiveReading _ _ _ _)
    · exact hnone
  split
  · exact .inl (reports_receiveStatus _ _ _ _)
  split
  · unfold receiveRequest
    split
    · exact .inl (reports_formatError s)
    · exact received_handleRequest _ _ _ s
  · exact hnone

theorem received_receive (f : RxFrame) (s : State) : Received (heard s) (receive f s) := by
  unfold receive
  split
  · exact .of_keepsWash ⟨rfl, rfl, rfl⟩
  · exact received_judgeFrame _ _ _ _ _

/-! ### The requests -/

theorem takenInState_of_taken {rc : RequestCode} {arg : Nat} {s : State} (h : judgeRequest rc arg s = .taken) :
    takenInState rc s = true := by
  unfold judgeRequest at h
  split at h
  · cases h
  · split at h
    · cases h
    next hs => simpa using hs

/-- ABANDON_WASH ends a wait or a contest with the claim NONE or as it was, and cuts a wash short under its HOLD (R12,
R18, R97). -/
theorem drainOk_abandonWash {s : State} (h : DrainOk s) (hs : takenInState .abandonWash s = true) :
    DrainOk (abandonWash s) := by
  by_cases hw : s.cycle.state.washStep = true
  · rw [abandonWash_washStep hw]; exact drainOk_cutShort (h.hold_of_washStep hw) _
  by_cases hc : s.cycle.state = .contest
  · have hcontest : (decide (s.cycle.state = .contest) && s.arb.claim.isIntent) = true := by
      simp [hc, (DrainLawful.intent h).2 hc]
    unfold abandonWash; simp only [if_neg hw, if_pos hcontest]
    exact drainOk_contestEnds h hc rfl nofun nofun rfl rfl
  · have hwait : s.cycle.state = .waiting := by simpa [takenInState, hw, hc] using hs
    unfold abandonWash; simp only [if_neg hw, hc, decide_false, Bool.false_and, Bool.false_eq_true, if_false]
    exact drainOk_enterState rfl nofun nofun (DrainLawful.not_intent h hc)
      (DrainLawful.covers h (by rw [hwait]; decide))

theorem drainOk_carryOut {s : State} (h : DrainOk s) {rc : RequestCode} (ht : takenInState rc s = true) :
    DrainOk (carryOut rc s) := by
  cases rc with
  | washNow => exact drainOk_operatorWash h
  | abandonWash => exact drainOk_abandonWash h ht
  | inhibitSet =>
    simp only [carryOut, setInhibit]; split
    · exact h
    · exact drainOk_endContestUncounted (s := s.setReq { s.req with inhibitFlag := true }) h
  | isolate =>
    have hs : s.cycle.state ≠ .starting ∧ s.cycle.state ≠ .contest := by
      simp only [takenInState, Bool.or_eq_true, decide_eq_true_eq] at ht
      rcases ht with hs | hs <;> rw [hs] <;> decide
    exact drainOk_enterCommanding (s := clearDue s) rfl (DrainLawful.not_intent h hs.2) nofun
      (DrainLawful.covers h hs.1)
  | returnToService =>
    have hs : s.cycle.state = .isolated := by simpa [takenInState] using ht
    exact drainOk_enterRecovering (DrainLawful.not_intent h (by rw [hs]; decide))
      (DrainLawful.covers h (by rw [hs]; decide))
  | clearCounters => simpa [DrainOk, carryOut, clearAllCounters] using h
  | inhibitClear | doseReset | readCounters | readWashRecord | restart | clearResetCause => exact h

theorem drainOk_takeRequest {s : State} (h : DrainOk s) {rc : RequestCode} {arg : Nat}
    (hj : judgeRequest rc arg s = .taken) (panel : Nat) : DrainOk (takeRequest panel rc arg s) := by
  unfold takeRequest; simp only
  split
  · exact drainOk_resetStation _ _
  · exact drainOk_carryOut h (takenInState_of_taken hj)

/-- A frame that arrives, whatever it is (R130). -/
theorem drainOk_receive {s : State} (h : DrainOk s) (f : RxFrame) : DrainOk (receive f s) := by
  have hheard : DrainOk (heard s) := h
  rcases received_receive f s with hr | ⟨panel, rc, arg, hj, hr⟩
  · exact hheard.of_reports hr
  · rw [hr]; exact drainOk_takeRequest hheard hj panel

/-! ### The link and the arbiter's timers -/

theorem drainOk_failAttempt {s : State} (h : DrainOk s) : DrainOk (failAttempt s) := by
  unfold failAttempt; simp only
  split
  · split
    · exact drainOk_resetStation _ _
    · exact drainOk_linkOffReport (s := s.setLink s.link.fail) h
  · exact h

theorem drainOk_signalError {s : State} (h : DrainOk s) : DrainOk (signalError s) := by
  unfold signalError; split
  · exact h
  · exact drainOk_failAttempt h
  · exact drainOk_failAttempt h

/-- The contest window starts within an INTENT (R93). -/
theorem drainOk_windowStarts {s : State} (h : DrainOk s) (number : Option Nat) : DrainOk (windowStarts number s) := by
  unfold windowStarts
  split
  next u hc =>
    split
    · have hi : s.arb.claim.isIntent = true := by rw [hc]; rfl
      have hst : s.cycle.state = .contest := (DrainLawful.intent h).1 hi
      exact { intent := ⟨fun _ => hst, fun _ => rfl⟩
              washing := fun hw => by rw [State.setArb_cycle, hst] at hw; cases hw
              starting := fun hs => by rw [State.setArb_cycle, hst] at hs; cases hs
              covers := fun _ => h.covers_of_contest hst _, obeyed := h.obeyed }
    · exact h
  all_goals exact h

theorem drainOk_completeTx {s : State} (h : DrainOk s) : DrainOk (completeTx s) := by
  unfold completeTx; split
  · exact h
  · unfold reportCompletion; split
    · exact drainOk_windowStarts (s := s.setLink s.link.complete) h _
    · split
      · exact drainOk_resetStation _ _
      · exact h
    all_goals exact h

/-- The contest is won with a HOLD, under which DRAIN_DOWN is entered (R9, R95). -/
theorem drainOk_windowExpires {s : State} (h : DrainOk s) : DrainOk (windowExpires s) := by
  unfold windowExpires; split
  next u _ =>
    split
    · exact drainOk_enterStep (s := clearOutcome (takeHold u s)) rfl rfl
    · exact h
  all_goals exact h

theorem drainOk_refreshHold {s : State} (h : DrainOk s) : DrainOk (refreshHold s) := by
  unfold refreshHold; split
  · split <;> exact h
  all_goals exact h

/-! ### The step -/

/-- Every command keeps the drain law. -/
theorem drainOk_exec {c : Instr} {s t : State} (h : DrainOk s) (he : exec c s = .next t) : DrainOk t := by
  cases c with
  | powerReset straps | supplyFallsBelowOperatingRange => cases he; exact drainOk_resetStation _ _
  | lineReset straps =>
    simp only [exec, execLineReset] at he; cases he
    split
    · exact drainOk_resetStation _ _
    · exact h
  | configurationLoadSettles a b r block => exact drainOk_event h (drainOk_settleLoad h _ _) he
  | startingEnd => exact drainOk_event h (drainOk_endStarting h) he
  | secondTick => exact drainOk_event h (drainOk_secondWork h) he
  | loadingHoldReached | breakthroughHoldReached | waitMinute | readingPeriod => exact drainOk_secondAt h he
  | conversion ch count => exact drainOk_event h (drainOk_takeConversion h ch count) he
  | clearHoldReached => exact drainOk_event h (drainOk_clearHoldReached h) he
  | drainDownEnd =>
    refine drainOk_event h (drainOk_of_stepDone (effect := endDrainDown) h rfl fun hh => drainOk_enterStep ?_ hh) he
    split <;> rfl
  | airScourEnd => exact drainOk_event h (drainOk_of_stepDone h rfl fun hh => drainOk_enterStep rfl hh) he
  | backwashEnd => exact drainOk_event h (drainOk_backwashOver h) he
  | settleEnd => exact drainOk_event h (drainOk_of_stepDone h rfl fun hh => drainOk_enterStep rfl hh) he
  | rinseEnd => exact drainOk_event h (drainOk_of_stepDone h rfl fun hh => drainOk_enterReturning hh) he
  | limitSwitchChange v p level => exact drainOk_event h (drainOk_takeSwitch h v p level) he
  | reversalPauseEnd v =>
    refine drainOk_event h (drainOk_whenDue h fun hd => ?_) he
    simp only [Valve.pauseEnds, Bool.and_eq_true] at hd
    exact drainOk_channelEvent h (h.not_starting hd.1) (valveChange_endPause _)
  | travelTimeout v =>
    refine drainOk_event h (drainOk_whenDue h fun hd => ?_) he
    simp only [Valve.timedOut, Bool.and_eq_true] at hd
    exact drainOk_channelEvent h (h.not_starting (Valve.travelling_of_driven hd.1)) .faults
  | manualWashEdge | inhibitKeyChange _ | tankLowAssert | doseFbEdge | debouncedInputChange _ _ =>
    exact drainOk_event h (drainOk_takeInput h _ _) he
  | claimIntentArrival _ _ _ | claimHoldArrival _ _ _ | claimReleaseArrival _ _ _ | statusArrival _ _ _
  | readingArrival _ _ _ | answerArrival _ | washNow _ _ _ _ | abandonWash _ _ _ _ | inhibitSet _ _ _ _
  | inhibitClear _ _ _ _ | isolate _ _ _ _ | returnToService _ _ _ _ | doseReset _ _ _ _ | readCounters _ _ _ _
  | clearCounters _ _ _ _ | readWashRecord _ _ _ _ | restart _ _ _ _ | clearResetCause _ _ _ _
  | unknownRequest _ _ _ _ _ => exact drainOk_event h (drainOk_receive h _) he
  | rxSignalError => exact drainOk_event h (drainOk_signalError h) he
  | statusLapse p => exact drainOk_event h (h.of_reports (reports_lapseStatus _ _)) he
  | intentLapse p => exact drainOk_event h (h.of_reports (reports_lapseIntent _ _)) he
  | holdLapse p => exact drainOk_event h (h.of_reports (reports_lapseHold _ _)) he
  | contestWindowExpiry => exact drainOk_event h (drainOk_windowExpires h) he
  | holdRefresh => exact drainOk_event h (drainOk_refreshHold h) he
  | txFailure => exact drainOk_event h (drainOk_whenDue h fun _ => drainOk_failAttempt h) he
  | txCompletion => exact drainOk_event h (drainOk_completeTx h) he
  | txAttemptStart => exact drainOk_event (body := fun s => s.setLink s.link.startAttempt) h h he
  | lossOfTheMedium => exact drainOk_event (body := fun s => s.setLink s.link.loseMedium) h h he
  | readingStale | backoffEnd | offPeriodEnd | connectedLapse | stroke | pulseEnd | feedbackMiss =>
    exact drainOk_event h (drainOk_whenDue h fun _ => h) he

/-- A tick's counts leave the claim, the cycle state, the confirmations and the channels' states. -/
theorem drainOk_tick {s : State} (h : DrainOk s) : DrainOk (tick s) := by
  have hcycle : s.cycle.countTick.state = s.cycle.state ∧ s.cycle.countTick.confirmed = s.cycle.confirmed := by
    unfold Cycle.countTick; split <;> exact ⟨rfl, rfl⟩
  have hcounted : DrainOk (((s.setCycle s.cycle.countTick).setValves (s.valves.map fun _ c => c.tick)).setArb
      (s.arb.countTick (s.cycle.state = .waiting))) := by
    refine ((h.setCycle hcycle.1 hcycle.2).setValves fun v => ?_).setArb rfl
    rw [Valves.get_map]; exact (Valve.tick_state _).1
  unfold tick; split
  · exact hcounted
  · exact h

/-- Settles O56: the drain law is inductive by itself, since it says besides that the channels obey their set. -/
theorem everyStepKeepsTheDrainLaw : Obligations.EveryStepKeepsTheDrainLaw := by
  intro s t h hst
  rw [drainLaw_iff] at h ⊢
  unfold step at hst
  split at hst
  · cases hst; exact drainOk_tick h
  next c rest _ => exact drainOk_exec (s := s.setPending rest) h hst

end Sys2Proof.Machine
end

section
/-! SUPPORT. The share arbiter's rules of the drain: urgency and precedence (R87, R88), the tests (R80, R89 to R91, R106),
and its timers (R98, R99). -/

namespace Sys2Proof.Machine

/-! ### Urgency and precedence -/

/-- The urgency bands fit in a byte (R87). -/
theorem DueReason.base_le (d : DueReason) : d.base ≤ 192 := by cases d <;> decide

/-- The urgency lies in the band of the due reason (R87). -/
theorem formedUrgency_band (s : State) :
    s.cycle.due.base ≤ formedUrgency s ∧ formedUrgency s ≤ s.cycle.due.base + 63 := by
  unfold formedUrgency; simp only; omega

theorem formedUrgency_le (s : State) : formedUrgency s ≤ 255 := by
  have := (formedUrgency_band s).2
  have := s.cycle.due.base_le
  omega

theorem ownUrgency_none {s : State} (h : s.arb.claim = .none) : ownUrgency s = formedUrgency s := by
  unfold ownUrgency; rw [h]

theorem ownUrgency_frozen {s : State} {own : Nat} {phase : ContestPhase}
    (h : s.arb.claim = .intent own phase ∨ s.arb.claim = .hold own) : ownUrgency s = own := by
  unfold ownUrgency; rcases h with h | h <;> rw [h]

theorem PeerEntry.precedes_none {e : PeerEntry} (h : e.claim = .none) (urgency own : Nat) :
    e.precedes urgency own = false := by
  unfold PeerEntry.precedes; rw [h]

/-- A claim has precedence over a lower urgency, and over an equal one of a higher station number (R88). -/
theorem PeerEntry.precedes_iff {e : PeerEntry} {u f : Nat} (h : e.claim = .intent u f ∨ e.claim = .hold u f)
    (urgency own : Nat) :
    e.precedes urgency own = true ↔ urgency < u ∨ (u = urgency ∧ e.station < own) := by
  unfold PeerEntry.precedes; rcases h with h | h <;> rw [h] <;> simp

/-- Of two stations with different numbers exactly one has precedence, and they agree on which (R88). -/
theorem PeerEntry.precedes_strict {a b : PeerEntry} {ua ub fa fb : Nat}
    (ha : a.claim = .intent ua fa ∨ a.claim = .hold ua fa) (hb : b.claim = .intent ub fb ∨ b.claim = .hold ub fb)
    (hne : a.station ≠ b.station) : a.precedes ub b.station = true ↔ b.precedes ua a.station = false := by
  rw [← Bool.not_eq_true, PeerEntry.precedes_iff ha, PeerEntry.precedes_iff hb]
  omega

/-! ### The tests -/

/-- A peer counts as filtering with a filtering state in its status part and a claim that is not HOLD (R80). -/
theorem PeerEntry.countsAsFiltering_iff (e : PeerEntry) :
    e.countsAsFiltering = true ↔
      (∃ st, e.status = some st ∧ (st.code = .inService ∨ st.code = .waiting ∨ st.code = .contest))
        ∧ e.claim.isHold = false := by
  simp only [← CycleState.filtering_iff]
  unfold PeerEntry.countsAsFiltering
  cases hs : e.status with
  | none => simp
  | some st => cases hc : e.claim <;> simp [PeerClaim.isHold]

/-- What an INTENT adds to A: its flow where it has precedence (R89). -/
def announcedFlow (s : State) (e : PeerEntry) : Nat :=
  match e.claim with
  | .intent _ flow => if hasPrecedence s e = true then flow else 0
  | _ => 0

/-- A peer adds to A as a HOLD or as an INTENT with precedence (R89). -/
theorem admissionFlow_eq (s : State) (e : PeerEntry) : admissionFlow s e = heldFlow e + announcedFlow s e := by
  unfold admissionFlow heldFlow announcedFlow; cases e.claim <;> simp

/-- The group part asks nothing where the group minimum is 0 (R90, R106). -/
theorem groupPart_iff (minimum n : Nat) :
    (decide (minimum = 0) || decide (minimum ≤ n)) = true ↔ (0 < minimum → minimum ≤ n) := by
  simp only [Bool.or_eq_true, decide_eq_true_eq]; omega

/-- The filtering peers of the own group (R80, R90). -/
def groupPeers (s : State) : List PeerEntry :=
  s.peers.entries.filter fun e => e.group = s.load.group && e.countsAsFiltering

theorem admission_iff (s : State) :
    admission s = true ↔
      s.cfg.washFlow + (s.peers.entries.map fun e => heldFlow e + announcedFlow s e).sum ≤ s.cfg.drainCapacity
        ∧ (0 < s.cfg.groupMinimum →
            s.cfg.groupMinimum ≤
              ((groupPeers s).filter fun e => !(e.claim.isIntent && hasPrecedence s e)).length) := by
  have hflow : flowSum s = s.cfg.washFlow + (s.peers.entries.map fun e => heldFlow e + announcedFlow s e).sum := by
    unfold flowSum; rw [funext (admissionFlow_eq s)]
  have hgroup : s.peers.entries.filter (countedInGroup s) =
      (groupPeers s).filter fun e => !(e.claim.isIntent && hasPrecedence s e) := by
    unfold groupPeers; rw [List.filter_filter]
    congr 1; funext e
    exact Bool.and_comm _ _
  unfold admission
  rw [Bool.and_eq_true, groupPart_iff, decide_eq_true_eq, hflow, hgroup]

theorem overlapPasses_iff (s : State) :
    overlapPasses s = true ↔
      s.cfg.washFlow + (s.peers.entries.map heldFlow).sum ≤ s.cfg.drainCapacity
        ∧ (0 < s.cfg.groupMinimum → s.cfg.groupMinimum ≤ (groupPeers s).length) := by
  unfold overlapPasses groupPeers
  rw [Bool.and_eq_true, groupPart_iff, decide_eq_true_eq]

theorem restricted_eq_false_iff (s : State) :
    s.restricted = false ↔ s.load.outcome = none ∨ s.load.outcome = some .good := by
  unfold State.restricted
  cases s.load.outcome with
  | none => simp
  | some o => cases o <;> simp

/-- The seven conditions for a new intent (R91). -/
theorem intentConditions_iff (s : State) :
    intentConditions s = true ↔
      s.link.successAge < 400 ∧ s.link.mode ≠ .off ∧ s.arb.backoff = 0
        ∧ (s.req.inhibitFlag = false ∧ s.inputs.inhibitKey.level = false) ∧ s.inputs.tankLow.level = false
        ∧ (s.load.outcome = none ∨ s.load.outcome = some .good) ∧ s.peers.duplicate = false := by
  rw [← restricted_eq_false_iff]
  simp [intentConditions, Link.connected, State.inhibited, State.tankLow, and_assoc]

/-- Settles O39: each rule by the equation of its function. -/
theorem urgencyAndPrecedence : Obligations.UrgencyAndPrecedence := by
  refine ⟨fun s => ⟨rfl, (formedUrgency_band s).1, (formedUrgency_band s).2, formedUrgency_le s⟩,
    fun s base hbase => ?_, fun s e u f own phase => ⟨ownUrgency_none, ownUrgency_frozen,
      fun h => PeerEntry.precedes_none h _ _, fun h => PeerEntry.precedes_iff h _ _⟩,
    fun a b ua ub fa fb ha hb => PeerEntry.precedes_strict ha.symm hb.symm, PeerEntry.countsAsFiltering_iff,
    fun s => ?_⟩
  · have hdue : s.cycle.due.base = base := by
      rcases hbase with ⟨h, hb⟩ | ⟨h, hb⟩ | ⟨h, hb⟩ | ⟨h, hb⟩ <;> rw [h, hb] <;> rfl
    rw [← hdue]
    exact ⟨rfl, formedUrgency_band s⟩
  · intro held announced expected filtering
    have hheld : held = heldFlow := by
      funext e; cases hc : e.claim <;> simp [held, heldFlow, hc]
    have hannounced : announced = announcedFlow s := by
      funext e; cases hc : e.claim <;> simp [announced, announcedFlow, hc]
    rw [hheld, hannounced]
    exact ⟨admission_iff s, intentConditions_iff s, overlapPasses_iff s⟩

/-! ### The timers -/

/-- Settles O43: each end by its own effect, the cycle state staying. -/
theorem backoffEndsAndHoldIsRefreshed : Obligations.BackoffEndsAndHoldIsRefreshed := by
  intro u s hs
  refine ⟨fun hst hb => ?_, fun hc hr => ?_⟩
  · have hdue : backoffDue s = true := by simp [backoffDue, hst, hb]
    have hbody : whenDue (backoffDue s) backoffEnds s = s.setArb { s.arb with backoff := 0 } := by
      rw [whenDue, if_pos hdue]; rfl
    exact event_quiet_of_body hs hbody rfl
  · have hbody : refreshHold s = offerHold u (s.setArb { s.arb with refreshTimer := 0 }) := by
      unfold refreshHold; simp only [hc, if_pos hr]
    exact event_quiet_of_body hs hbody rfl

end Sys2Proof.Machine
end

section
/-! SUPPORT. The contest ended uncounted by the key and the tank (R94, R148, R157), and won (R95). -/

namespace Sys2Proof.Machine

/-! ### A contest that ends uncounted -/

/-- A loss that is not counted (R94). -/
theorem loseContest_uncounted (s : State) :
    loseContest false s =
      ((s.setLink (withdrawnLink s s.link)).setArb
        { s.arb with claim := .none, windowTimer := 0, backoff := 200 + 10 * s.load.station }).setCycle
        (cycleIn .waiting s.cycle) := by
  unfold loseContest
  exact enterState_quiet (fun _ => rfl) fun _ => rfl

theorem endContestUncounted_contest {s : State} (h : s.cycle.state = .contest) (hi : s.arb.claim.isIntent = true) :
    endContestUncounted s = loseContest false s := by
  simp [endContestUncounted, inContest, h, hi]

theorem endContestUncounted_elsewhere {s : State} (h : s.cycle.state ≠ .contest) : endContestUncounted s = s := by
  simp [endContestUncounted, inContest, h]

/-- An input that changes its level has the effect of its edge on the station with the level changed (R155). -/
theorem takeInput_changed {i : DiscreteInput} {level : Bool} {s : State} (h : level ≠ (s.inputs.get i).level) :
    takeInput i level s =
      if level then risingEdge i (s.setInputs (s.inputs.set i (.changeTo level)))
      else s.setInputs (s.inputs.set i (.changeTo level)) := by
  unfold takeInput; simp only [if_neg h]

/-- A command whose event ends a contest uncounted, in `m`, completes with the contest over and the loss not counted. -/
theorem completes_contestOver_uncounted {cmd : Instr} {body : State → State} {s m : State} (hs : s.supplyOk = true)
    (he : exec cmd s = event false body s) (hst : s.cycle.state = .contest)
    (hbody : body s = loseContest false m) :
    completes cmd s (contestOver m.arb.contestsLost (withdrawnLink m m.link) m) := by
  rw [loseContest_uncounted] at hbody
  refine completes_change hs he hbody (by decide : CycleState.waiting ≠ .starting) ?_ fun _ ht => ht
  rw [hst]; exact (by decide : CycleState.waiting ≠ .contest)

/-- Settles O32: the edge of either input ends the contest, and elsewhere does nothing. -/
theorem keyAndTankEndAContestUncounted : Obligations.KeyAndTankEndAContestUncounted := by
  intro s hs key tank withdrawn
  have hkey : s.inputs.inhibitKey.level = false → takeInput .inhibitKey true s = keyAsserts (key true) := fun hl =>
    takeInput_changed (by simp [Inputs.get, hl])
  have htank : s.inputs.tankLow.level = false → takeInput .tankLow true s = tankRunsLow tank := fun hl =>
    takeInput_changed (by simp [Inputs.get, hl])
  refine ⟨fun hl hflag hst hi => ?_, fun hl hq => ?_, fun hl => ?_, fun hl hst hi => ?_, fun hl hst hw => ?_⟩
  · have hasserts : keyAsserts (key true) = endContestUncounted (key true) := if_neg (by simp [key, hflag])
    exact completes_contestOver_uncounted (m := key true) hs rfl hst
      ((hkey hl).trans (hasserts.trans (endContestUncounted_contest (s := key true) hst hi)))
  · refine event_quiet_of_body hs ((hkey hl).trans ?_) rfl
    unfold keyAsserts
    split
    · rfl
    next hflag => exact endContestUncounted_elsewhere (s := key true) (hq.resolve_left hflag)
  · exact event_quiet_of_body hs (takeInput_changed (i := .inhibitKey) (level := false) (by simp [Inputs.get, hl])) rfl
  · have hw : tank.cycle.state.washStep = false := by rw [show tank.cycle.state = .contest from hst]; rfl
    have hlow : tankRunsLow tank = endContestUncounted tank := if_neg (by simp [hw])
    exact completes_contestOver_uncounted (m := tank) hs rfl hst
      ((htank hl).trans (hlow.trans (endContestUncounted_contest (s := tank) hst hi)))
  · have hlow : tankRunsLow tank = endContestUncounted tank := if_neg (by simpa [tank] using hw)
    exact event_quiet_of_body hs
      ((htank hl).trans (hlow.trans (endContestUncounted_elsewhere (s := tank) hst))) rfl

/-! ### The win -/

/-- A wash step is entered with its set commanded and nothing more than the change of state asks for, where no channel
faults at its command (R2, R20). -/
theorem enterStep_commanded {s : State} {step : CycleState} (hw : step.washStep = true)
    (hb : noBothAsserted s = true) : enterStep step s = commandedTo (stepSet step) (enterState step s) := by
  have hwash : (enterState step s).cycle.state.washing = true := by simp [CycleState.washing, hw]
  unfold enterStep; simp only
  rw [commandSet_of_washing hwash,
    commandFaults_of_noBothAsserted ((noBothAsserted_enterState step s).trans hb), if_neg (by decide)]

/-- The contest won: HOLD at the frozen urgency, its CLAIM offered, and DRAIN_DOWN out of CONTEST (R9, R13, R95, R116). -/
theorem winContest_eq {s : State} (hst : s.cycle.state = .contest) (hb : noBothAsserted s = true) (u : Nat) :
    winContest u s =
      { s with
        cycle := { cycleIn .drainDown s.cycle with
                   outcome := none, backwashSeconds := 0, confirmed := s.valves.confirmations (stepSet .drainDown) }
        valves := s.valves.command (stepSet .drainDown)
        arb := { s.arb with claim := .hold u, windowTimer := 0, refreshTimer := 0 }
        dose := doseHeld s.dose
        link := s.link.offer (claimFrame s none [2, byte u, byte s.cfg.washFlow, 0]) } := by
  have hheld : (clearOutcome (takeHold u s)).cycle.state = .contest := hst
  unfold winContest enterDrainDown
  rw [enterStep_commanded (s := clearOutcome (takeHold u s)) rfl hb, enterState_eq, hheld, if_pos (by decide),
    if_neg (by decide)]
  simp only [commandedTo, clearOutcome, takeHold, offerHold, offer, State.setArb, State.setLink, State.setCycle,
    State.setDose]
  rfl

/-- Settles O40: the expired window wins the contest. -/
theorem windowExpiryWinsTheContest : Obligations.WindowExpiryWinsTheContest := by
  intro u s hs hst hc hwin hadm hb
  have hbody : windowExpires s = winContest u s := by
    unfold windowExpires; simp only [hc]; rw [if_pos (by simp [hst, hwin, hadm])]
  refine completes_change hs rfl (hbody.trans (winContest_eq hst hb u)) (by decide : CycleState.drainDown ≠ .starting) ?_
    fun t ht => ht
  rw [hst]; exact (by decide : CycleState.drainDown ≠ .contest)

end Sys2Proof.Machine
end

section
/-! SUPPORT. A peer's entry into HOLD during this station's wash (R106, R107), and the contest entered at a second tick
(R8, R92). -/

namespace Sys2Proof.Machine

/-! ### The overlap -/

/-- A peer that enters HOLD is seen by the arbiter: what it reads of the entry has changed (R75, R81). -/
theorem visible_takeHold_ne {p g u f : Nat} {es : List PeerEntry} (h : (entryAt p g es).claim.isHold = false) :
    (findEntry p es).map PeerEntry.visible ≠ (some ((entryAt p g es).takeHold u f)).map PeerEntry.visible := by
  rw [entryAt_eq] at h
  cases he : findEntry p es with
  | none => nofun
  | some e =>
    intro hv
    have hclaim : e.claim = .hold u f := congrArg (fun x => x.2.2) (Option.some.inj hv)
    rw [he] at h
    rw [show ((some e).map PeerEntry.claim).getD .none = e.claim from rfl, hclaim] at h
    cases h

/-- In a wash step under its HOLD a report of an entry into HOLD is the overlap test (R106). -/
theorem changeReport_washStep {s : State} (hw : s.cycle.state.washStep = true) (hh : s.arb.claim.isHold = true)
    (e : PeerEntry) : changeReport (some e) s = if overlapPasses s then s else takeOverlap e s := by
  have hin : inContest s = false := by
    have hne : s.cycle.state ≠ .contest := by rintro h; rw [h] at hw; cases hw
    simp [inContest, hne]
  unfold changeReport
  rw [hin, if_neg (by decide), if_pos (by simp [hw, hh])]

/-- An overlap is counted, and yielded to in the steps before BACKWASH where the newcomer has precedence (R106, R107). -/
theorem takeOverlap_eq (e : PeerEntry) (s : State) :
    takeOverlap e s =
      if (s.cycle.state = .drainDown ∨ s.cycle.state = .airScour) ∧ hasPrecedence s e = true then
        cutShort .yielded (s.setArb { s.arb with overlaps := satInc s.arb.overlaps })
      else s.setArb { s.arb with overlaps := satInc s.arb.overlaps } := by
  unfold takeOverlap; simp

/-- A wash cut short into RETURNING leaves the link to the offers (R21). -/
theorem inReturning_cutShortAs_setLink (o : WashOutcome) (s : State) (l : Link) :
    inReturning (cutShortAs o (s.setLink l)) = (inReturning (cutShortAs o s)).setLink l := rfl

theorem inReturning_cutShortAs_load (o : WashOutcome) (s : State) :
    (inReturning (cutShortAs o s)).load = s.load := rfl

/-- A RELEASE reads of the state the group and the station number alone (R129). -/
theorem releasedLink_congr {s m : State} (h : m.load = s.load) (l : Link) : releasedLink m l = releasedLink s l := by
  unfold releasedLink claimFrame; rw [h]

/-- Settles O42: the arrival is an event of the peer's entry, whose report is the overlap test. -/
theorem overlapIsCountedAndYieldedTo : Obligations.OverlapIsCountedAndYieldedTo := by
  intro g p u f x own s hs hw hown hp hf old e m n ahead before hold
  obtain ⟨body, he, hbody⟩ := claimHold_event (g := g) hp u hf x
  have hread : (findEntry p.toNat (heard s).peers.entries).map PeerEntry.visible ≠ (some e).map PeerEntry.visible :=
    visible_takeHold_ne (es := s.peers.entries) hold
  have hfiltering : s.cycle.state.filtering = false := CycleState.washStep_not_filtering hw
  have hprec : hasPrecedence m e = true ↔ ahead := by
    have hu : ownUrgency m = own := ownUrgency_frozen (s := m) (phase := .pending) (.inr hown)
    have hstation : e.station = p.toNat := entryAt_station _ _ _
    unfold hasPrecedence
    rw [hu, PeerEntry.precedes_iff (e := e) (.inr rfl), hstation]
    rfl
  have hheld : (withEntry p.toNat (some e) (heard s)).arb.claim.isHold = true := congrArg OwnClaim.isHold hown
  have hreport : body s =
      if overlapPasses m then m.setLink s.link.afterArrival
      else if before ∧ hasPrecedence m e = true then cutShort .yielded (n.setLink s.link.afterArrival)
      else n.setLink s.link.afterArrival := by
    rw [hbody, hold, changeEntry_read hread, Bool.not_false, if_pos rfl,
      changeReport_washStep (s := withEntry p.toNat (some e) (heard s)) hw hheld, takeOverlap_eq]
    rfl
  have hyield : overlapPasses m = false → before → ahead → noBothAsserted s = true → body s =
      if standsAt serviceSet s then
        completeWash .yielded (inReturning (cutShortAs .yielded (n.setLink s.link.afterArrival)))
      else inReturning (cutShortAs .yielded (n.setLink s.link.afterArrival)) := by
    intro hfail hbefore hahead hb
    rw [hreport, hfail, if_neg (by decide), if_pos ⟨hbefore, hprec.2 hahead⟩]
    exact cutShort_cases (s := n.setLink s.link.afterArrival) hfiltering hb _
  refine ⟨fun hpass => ?_, fun hfail hq => ?_, fun hfail hbefore hahead hb hat => ?_,
    fun hfail hbefore hahead hat => ?_⟩
  · rw [hpass, if_pos rfl] at hreport
    exact he.trans (event_quiet_of_body hs hreport rfl)
  · rw [hfail, if_neg (by decide), if_neg fun h => hq ⟨h.1, hprec.1 h.2⟩] at hreport
    exact he.trans (event_quiet_of_body hs hreport rfl)
  · have hbody' := hyield hfail hbefore hahead hb
    rw [hat, if_neg (by decide), inReturning_cutShortAs_setLink] at hbody'
    refine completes_returningEntered hs he hbody' ?_
    rintro h; rw [h] at hw; cases hw
  · have hbody' := hyield hfail hbefore hahead (noBothAsserted_of_standsAt hat)
    have hload : (inReturning (cutShortAs .yielded (n.setLink s.link.afterArrival))).load = s.load :=
      inReturning_cutShortAs_load _ _
    rw [hat, if_pos rfl, ← completeWash_setLink, releasedLink_congr hload] at hbody'
    exact completes_washCompletedAtOnce (m := cutShortAs .yielded (n.setLink s.link.afterArrival)) hs he hbody' hfiltering

/-! ### The contest at a second tick -/

@[simp] theorem cycleSecond_arb (s : State) : (cycleSecond s).arb = s.arb := by
  have hdue : ∀ u : State, (evaluateDue u).arb = u.arb := by
    intro u
    rcases evaluateDue_cases u with h | ⟨r, h⟩ | ⟨r, h⟩ <;> rw [h]
    · rw [raiseDue, enterState_quiet (fun _ => rfl) fun _ => rfl]; rfl
    · rfl
  exact hdue _

@[simp] theorem cycleSecond_valves (s : State) : (cycleSecond s).valves = s.valves := by
  have hdue : ∀ u : State, (evaluateDue u).valves = u.valves := by
    intro u
    rcases evaluateDue_cases u with h | ⟨r, h⟩ | ⟨r, h⟩ <;> rw [h]
    · exact enterState_valves _ _
    · rfl
  exact hdue _

/-- A second tick leaves the channels as they are. -/
theorem secondTick_valves (s : State) : (finish s.cycle.state true (secondWork s)).valves = s.valves := by
  rw [(keepsPlant_finish _ _ _).valves, secondWork, dosingSecond_valves, (keepsPlant_tryContest _).valves,
    cycleSecond_valves]
  rfl

theorem countReadingPeriod_link (s : State) :
    (countReadingPeriod s).link = s.link ∨
      ∃ f : TxFrame, f.kind = .reading ∧ (countReadingPeriod s).link = s.link.offer f := by
  unfold countReadingPeriod
  split
  · split
    · exact .inr ⟨readingFrame (s.setDose { s.dose with periodCount := 0 }), rfl, rfl⟩
    · exact .inl rfl
  · exact .inl rfl

/-- The dosing unit offers a READING at most (R111). -/
theorem dosingSecond_link (s : State) :
    (dosingSecond s).link = s.link ∨ ∃ f : TxFrame, f.kind = .reading ∧ (dosingSecond s).link = s.link.offer f := by
  have hown : (sampleOwnChannels s).link = s.link := by unfold sampleOwnChannels; split <;> rfl
  have h := countReadingPeriod_link (sampleOwnChannels s)
  rw [hown] at h
  exact h

theorem Link.take_of_claim {l : Link} {f : TxFrame} (hc : l.claim = some f) (hm : l.mode ≠ .off) :
    l.take.claim = some f ∨ l.take.inTx = some f := by
  cases hi : l.inTx with
  | some g => left; rw [Link.take_busy hi]; exact hc
  | none => right; rw [Link.take_free hi hm]; simp [Link.takeWaiting, hc]

/-- A CLAIM that waits at the end of an event waits on, or is taken into transmission (R134). -/
theorem finish_claim {c : CycleState} {b : Bool} {s : State} {f : TxFrame} (hc : s.link.claim = some f)
    (hm : s.link.mode ≠ .off) : (finish c b s).link.claim = some f ∨ (finish c b s).link.inTx = some f := by
  rw [finish_eq, State.setLink_link]
  split
  · refine Link.take_of_claim ?_ (by rw [Link.offer_mode]; exact hm)
    rw [Link.offer_status hm rfl]; exact hc
  · exact Link.take_of_claim hc hm

/-- A CLAIM offered before the dosing unit's part of a second tick waits or is in transmission after it (R47, R133,
R134). -/
theorem secondTick_claim {c : CycleState} {b : Bool} {s : State} {l : Link} {f : TxFrame} {n : Option Nat}
    (hl : s.link = l.offer f) (hk : f.kind = .claim n) (hm : l.mode ≠ .off) :
    (finish c b (dosingSecond s)).link.claim = some f ∨ (finish c b (dosingSecond s)).link.inTx = some f := by
  have hmode : s.link.mode ≠ .off := by rw [hl, Link.offer_mode]; exact hm
  have hclaim : s.link.claim = some f := by rw [hl, Link.offer_claim hm hk]
  rcases dosingSecond_link s with h | ⟨g, hg, h⟩
  · exact finish_claim (by rw [h]; exact hclaim) (by rw [h]; exact hmode)
  · refine finish_claim ?_ ?_
    · rw [h, Link.offer_reading hmode hg]; exact hclaim
    · rw [h, Link.offer_mode]; exact hmode

/-- Settles O17: by whether the conditions and the admission test pass in the state that the cycle controller leaves. -/
theorem secondTickEntersAContest : Obligations.SecondTickEntersAContest := by
  intro s hs m claim
  refine completes_event hs rfl ?_
  have harb : m.arb = s.arb := cycleSecond_arb _
  have hload : m.load = s.load := ((keeps_scannerSecond s).trans (keeps_cycleSecond _)).load
  have hkeeps := (keeps_secondWork s).trans (keeps_finish s.cycle.state true _)
  refine ⟨fun ⟨hst, hn, hc, ha⟩ => ?_, fun henters => ?_, hkeeps.peers, secondTick_valves s, hkeeps.req, hkeeps.load,
    hkeeps.inputs, hkeeps.pins⟩
  · have htry : tryContest m = enterContest m := by
      rw [tryContest_waiting hst, if_pos ⟨harb ▸ hn, hc, ha⟩]
    have hmode : m.link.mode ≠ .off := ((intentConditions_iff m).1 hc).2.1
    have hclaim : claimFrame m (some (m.arb.intentNumber + 1)) [1, byte (formedUrgency m), byte m.cfg.washFlow, 0] =
        claim := by
      unfold claimFrame State.cfg; rw [harb, hload]; rfl
    rw [enterContest_eq hst, hclaim] at htry
    refine ⟨?_, ?_, ?_⟩
    · rw [secondTick_cycle]; exact congrArg (fun u => u.cycle.state) htry
    · rw [secondTick_arb, ← harb]; exact congrArg State.arb htry
    · exact secondTick_claim (s := tryContest m) (congrArg State.link htry) rfl hmode
  · have htry : tryContest m = m := by
      by_cases hst : m.cycle.state = .waiting
      · rw [tryContest_waiting hst, if_neg fun h => henters ⟨hst, harb ▸ h.1, h.2⟩]
      · exact tryContest_eq_self hst
    rw [secondTick_cycle, secondTick_arb]
    exact ⟨congrArg (fun u => u.cycle.state) htry, (congrArg State.arb htry).trans harb⟩

end Sys2Proof.Machine
end

section
/-! SUPPORT. The dosing law taken apart (R109, R115, R116, R121, R124): what the mode, d, I and the fault latch have to
be to one another, and the ranges that no mode touches; each operation of the dosing unit keeps them. -/

namespace Sys2Proof.Machine

/-! ### The dosing law -/

/-- The modes in which the pump is paced (R119). -/
def DosingMode.paces : DosingMode → Bool
  | .base | .trimmed => true
  | .held | .fault => false

/-- The ranges of the dosing unit that hold in every mode (R109). -/
structure Dosing.InRange (d : Dosing) : Prop where
  elapsed     : d.elapsed ≤ 65535
  missCount   : d.missCount ≤ 3
  strokeCount : d.strokeCount ≤ 65535
  readingAge  : d.readingAge ≤ 2000
  windows     : ∀ age ∈ d.windows, age ≤ 49

/-- The dosing unit as the cycle state and the working configuration ask for it: paced in a filtering state alone
(R116), I absent where the pump is not paced (R121), d and the elapsed count 0 where I is absent, and FAULT the mode of
a set latch (R124, R125). -/
structure Dosing.Lawful (d : Dosing) (filtering : Bool) (cfg : WorkingConfig) : Prop extends Dosing.InRange d where
  paced   : d.mode.paces = true → filtering = true ∧ d.dose ≤ cfg.maxDose
  idle    : d.mode.paces = false → d.interval = none
  absent  : d.interval = none → d.dose = 0 ∧ d.elapsed = 0 ∧ d.countOwed = false
  present : ∀ i, d.interval = some i → cfg.minStrokeInterval ≤ i ∧ 0 < d.dose
  latch   : d.faultLatch = true ↔ d.mode = .fault

/-- The dosing law of a dosing unit, a cycle state and a loader. -/
structure DosingLawful (d : Dosing) (c : CycleState) (l : Loader) : Prop where
  unit   : d.Lawful c.filtering l.config
  minLow : 30 ≤ l.config.minStrokeInterval
  minTop : l.config.minStrokeInterval ≤ 300
  begun  : c ≠ .starting → l.outcome.isSome = true

/-- The dosing law as a proposition. -/
def DosingOk (s : State) : Prop := DosingLawful s.dose s.cycle.state s.load

theorem dosingLaw_iff (s : State) : dosingLaw s = true ↔ DosingOk s := by
  have hlatch : (s.dose.faultLatch == decide (s.dose.mode = .fault)) = true ↔
      (s.dose.faultLatch = true ↔ s.dose.mode = .fault) := by
    rw [beq_iff_eq, Bool.eq_iff_iff, decide_eq_true_eq]
  have hbegun : (s.load.outcome.isSome || decide (s.cycle.state = .starting)) = true ↔
      (s.cycle.state ≠ .starting → s.load.outcome.isSome = true) := by
    rw [Bool.or_eq_true, decide_eq_true_eq, or_comm, Classical.or_iff_not_imp_left]
  unfold dosingLaw
  simp only [Bool.and_eq_true, decide_eq_true_eq, hlatch, hbegun, List.all_eq_true]
  constructor
  · rintro ⟨⟨⟨⟨⟨⟨⟨⟨⟨⟨hmode, hinterval⟩, hl⟩, helapsed⟩, hmiss⟩, hstroke⟩, hage⟩, hwindows⟩, hlow⟩, htop⟩, hb⟩
    refine ⟨⟨⟨helapsed, hmiss, hstroke, hage, hwindows⟩, ?_, ?_, ?_, ?_, hl⟩, hlow, htop, hb⟩
    · intro hp; cases hm : s.dose.mode <;> simp_all [DosingMode.paces]
    · intro hp; cases hm : s.dose.mode <;> simp_all [DosingMode.paces]
    · intro hi; simpa [hi, and_assoc] using hinterval
    · intro i hi; simpa [hi] using hinterval
  · rintro ⟨h, hlow, htop, hb⟩
    refine ⟨⟨⟨⟨⟨⟨⟨⟨⟨⟨?_, ?_⟩, h.latch⟩, h.elapsed⟩, h.missCount⟩, h.strokeCount⟩, h.readingAge⟩, h.windows⟩, hlow⟩,
      htop⟩, hb⟩
    · have hpaced := h.paced
      have hidle := h.idle
      have habsent := h.absent
      cases hm : s.dose.mode <;> simp_all [DosingMode.paces]
    · have habsent := h.absent
      have hpresent := h.present
      cases hi : s.dose.interval <;> simp_all

/-! ### The pacer -/

section Pacer

variable {d : Dosing} {filtering : Bool} {cfg : WorkingConfig}

/-- A pacer that stops is lawful in a mode that agrees with the cycle state and the fault latch (R121). -/
theorem Dosing.InRange.stopPacing (h : d.InRange) {mode : DosingMode} (hp : mode.paces = true → filtering = true)
    (hl : d.faultLatch = true ↔ mode = .fault) : (d.stopPacing mode).Lawful filtering cfg :=
  { h with
    elapsed := Nat.zero_le _, paced := fun hm => ⟨hp hm, Nat.zero_le _⟩, idle := fun _ => rfl,
    absent := fun _ => ⟨rfl, rfl, rfl⟩, present := nofun, latch := hl }

/-- Dosing held is lawful in any cycle state (R116). -/
theorem Dosing.Lawful.holdOnExit (h : d.Lawful filtering cfg) (other : Bool) : d.holdOnExit.Lawful other cfg := by
  unfold Dosing.holdOnExit
  refine h.toInRange.stopPacing ?_ ?_
  · split <;> nofun
  · rw [h.latch]; split <;> simp_all

theorem Dosing.Lawful.beginStroke (h : d.Lawful filtering cfg) (width : Nat) :
    (d.beginStroke width).Lawful filtering cfg :=
  { h with
    elapsed := Nat.zero_le _
    strokeCount := Nat.le_of_lt_succ (Nat.mod_lt _ (by decide))
    windows := fun age ha => by
      rcases List.mem_append.1 ha with ha | ha
      · exact h.windows age ha
      · rw [List.mem_singleton.1 ha]; exact Nat.zero_le _
    absent := fun hi => ⟨(h.absent hi).1, rfl, rfl⟩ }

theorem Dosing.interval_of_pacing (hp : d.pacing = true) : d.interval ≠ none := by
  simp only [Dosing.pacing, Bool.and_eq_true] at hp
  exact Option.isSome_iff_ne_none.1 hp.2

/-- The pacer counts with I present alone (R119). -/
theorem Dosing.Lawful.countPacer (h : d.Lawful filtering cfg) : d.countPacer.Lawful filtering cfg := by
  unfold Dosing.countPacer; split
  next hp =>
    exact { h with elapsed := incTo_le _ _, absent := fun hi => absurd hi (Dosing.interval_of_pacing hp) }
  · exact h

theorem Dosing.Lawful.countAfterRecompute (h : d.Lawful filtering cfg) (width : Nat) :
    (d.countAfterRecompute width).Lawful filtering cfg := by
  have hcount : { d.countPacer with countOwed := false }.Lawful filtering cfg :=
    { h.countPacer with
      absent := fun hi => ⟨(h.countPacer.absent hi).1, (h.countPacer.absent hi).2.1, rfl⟩ }
  unfold Dosing.countAfterRecompute; simp only
  split
  · split
    · exact hcount.beginStroke width
    · exact hcount
  · exact h

/-- The dosing unit in a mode with a new d and I (R117, R118). -/
def Dosing.withPace (d : Dosing) (mode : DosingMode) (dose interval : Nat) : Dosing :=
  { d with mode := mode, dose := dose, interval := some interval }

/-- The dosing unit paced at a new d and I: a stroke where the elapsed count has reached I, and the tick's own count
where that comes after the recompute (R120). -/
def Dosing.paceAt (d : Dosing) (mode : DosingMode) (dose interval width : Nat) : Dosing :=
  (if interval ≤ d.elapsed then (d.withPace mode dose interval).beginStroke width
    else d.withPace mode dose interval).countAfterRecompute width

/-- With d 0 in the modes that do not pace, d alone decides whether the pacer stops (R121). -/
theorem Dosing.recompute_eq {mode : DosingMode} {dose : Nat} (h : mode.paces = false → dose = 0) (d : Dosing)
    (interval width : Nat) :
    d.recompute mode dose interval width =
      if dose = 0 then d.stopPacing mode else d.paceAt mode dose interval width := by
  cases mode with
  | held | fault => rw [if_pos (h rfl)]; rfl
  | base | trimmed => rfl

/-- A recompute is lawful in a mode that agrees with the cycle state and the fault latch (R115 to R121). -/
theorem Dosing.InRange.recompute (h : d.InRange) {mode : DosingMode} {dose interval : Nat}
    (hp : mode.paces = true → filtering = true) (hl : d.faultLatch = true ↔ mode = .fault)
    (h0 : mode.paces = false → dose = 0) (hd : dose ≤ cfg.maxDose) (hi : cfg.minStrokeInterval ≤ interval)
    (width : Nat) : (d.recompute mode dose interval width).Lawful filtering cfg := by
  rw [Dosing.recompute_eq h0]
  split
  · exact h.stopPacing hp hl
  next hpos =>
    have hnew : (d.withPace mode dose interval).Lawful filtering cfg :=
      { h with
        paced := fun hm => ⟨hp hm, hd⟩, idle := fun hm => absurd (h0 hm) hpos, absent := nofun, latch := hl
        present := by rintro i ⟨⟩; exact ⟨hi, Nat.pos_of_ne_zero hpos⟩ }
    unfold Dosing.paceAt
    split
    · exact (hnew.beginStroke width).countAfterRecompute width
    · exact hnew.countAfterRecompute width

/-- Where nothing is paced the law reads nothing of the configuration. -/
theorem Dosing.Lawful.of_idle (h : d.Lawful filtering cfg) (hm : d.mode.paces = false) (other : WorkingConfig) :
    d.Lawful filtering other :=
  { h with
    paced := fun hp => by rw [hm] at hp; cases hp
    present := fun i hi => by rw [h.idle hm] at hi; cases hi }

/-! ### The record, the feedback and the tick -/

/-- A READING is adopted or ignored, which reaches the record and its age alone (R112, R113). -/
theorem Dosing.Lawful.takeReading (h : d.Lawful filtering cfg) (holder : Bool) (p f ph : Nat) (a : AnalyserState) :
    (d.takeReading holder p f ph a).Lawful filtering cfg := by
  rw [Dosing.takeReading_eq]
  split
  · exact { h with readingAge := Nat.zero_le _ }
  · exact { h with }

theorem Dosing.Lawful.feedback (h : d.Lawful filtering cfg) : d.feedback.Lawful filtering cfg := by
  unfold Dosing.feedback; split
  · exact h
  next hw =>
    exact { h with
            missCount := Nat.zero_le _
            windows := fun age ha => h.windows age (by rw [hw]; exact List.mem_cons_of_mem _ ha) }

/-- A miss counts to 3 at most, and at 3 latches FAULT (R124). -/
theorem Dosing.Lawful.miss (h : d.Lawful filtering cfg) : d.miss.Lawful filtering cfg := by
  have hcounted : { d with windows := d.windows.drop 1, missCount := incTo 3 d.missCount }.Lawful filtering cfg :=
    { h with missCount := incTo_le _ _, windows := fun age ha => h.windows age (List.mem_of_mem_drop ha) }
  unfold Dosing.miss; simp only
  split
  · have hlatched :
        { d with windows := d.windows.drop 1, missCount := incTo 3 d.missCount, faultLatch := true }.InRange :=
      { hcounted with }
    exact hlatched.stopPacing (mode := .fault) nofun ⟨fun _ => rfl, fun _ => rfl⟩
  · exact hcounted

/-- DOSE_RESET leaves HELD with the pacer stopped, as FAULT had it (R125). -/
theorem Dosing.Lawful.clearFault (h : d.Lawful filtering cfg) (hm : d.mode = .fault) :
    d.clearFault.Lawful filtering cfg :=
  have hstopped : d.interval = none := h.idle (by rw [hm]; rfl)
  { h with
    missCount := Nat.zero_le _, windows := nofun, paced := nofun, idle := fun _ => hstopped,
    latch := ⟨nofun, nofun⟩ }

theorem Dosing.Lawful.countTick (h : d.Lawful filtering cfg) (holder : Bool) :
    (d.countTick holder).Lawful filtering cfg :=
  { h with
    readingAge := by
      have hage := h.readingAge
      simp only [Dosing.countTick]
      split
      · exact hage
      · split <;> omega
    windows := fun age ha => by
      obtain ⟨old, -, rfl⟩ := List.mem_map.1 ha
      exact incTo_le _ _ }

/-- A count is owed with I present alone (R120). -/
theorem Dosing.Lawful.pacerTick (h : d.Lawful filtering cfg) (late : Bool) :
    (d.pacerTick late).Lawful filtering cfg := by
  unfold Dosing.pacerTick; split
  next hp =>
    rw [Bool.and_eq_true] at hp
    exact { h with absent := fun hi => absurd hi (Dosing.interval_of_pacing hp.2) }
  · exact h.countPacer

end Pacer

end Sys2Proof.Machine
end

section
/-! SUPPORT. What the operations of the cycle controller and the share arbiter leave of the dosing unit: all of it, or
dosing held where a filtering state is left for another (R116). -/

namespace Sys2Proof.Machine

/-! ### Dosing follows the cycle -/

theorem Dosing.holdOnExit_holdOnExit (d : Dosing) : d.holdOnExit.holdOnExit = d.holdOnExit := by
  by_cases hm : d.mode = .fault <;> simp [Dosing.holdOnExit, Dosing.stopPacing, hm]

/-- `t` has the dosing unit of `s`, in a filtering state if `s` is in one, or has it held; and the loader of `s`. -/
structure FollowsCycle (s t : State) : Prop where
  dose : (t.dose = s.dose ∧ (s.cycle.state.filtering = true → t.cycle.state.filtering = true))
    ∨ t.dose = s.dose.holdOnExit
  load : t.load = s.load

theorem FollowsCycle.refl (s : State) : FollowsCycle s s := ⟨.inl ⟨rfl, id⟩, rfl⟩

theorem FollowsCycle.trans {s t u : State} (h : FollowsCycle s t) (k : FollowsCycle t u) : FollowsCycle s u := by
  refine ⟨?_, k.load.trans h.load⟩
  rcases h.dose with ⟨hd, hf⟩ | hd <;> rcases k.dose with ⟨kd, kf⟩ | kd
  · exact .inl ⟨kd.trans hd, kf ∘ hf⟩
  · exact .inr (by rw [kd, hd])
  · exact .inr (kd.trans hd)
  · exact .inr (by rw [kd, hd, Dosing.holdOnExit_holdOnExit])

/-- What touches neither the dosing unit nor the cycle state nor the loader. -/
theorem FollowsCycle.of_same {s t : State} (hd : t.dose = s.dose) (hc : t.cycle.state = s.cycle.state)
    (hl : t.load = s.load) : FollowsCycle s t := ⟨.inl ⟨hd, fun hf => by rw [hc]; exact hf⟩, hl⟩

theorem FollowsCycle.after {s t u : State} (k : FollowsCycle t u) (hd : t.dose = s.dose)
    (hc : t.cycle.state = s.cycle.state) (hl : t.load = s.load) : FollowsCycle s u := (of_same hd hc hl).trans k

theorem FollowsCycle.then_same {s t u : State} (h : FollowsCycle s t) (hd : u.dose = t.dose)
    (hc : u.cycle.state = t.cycle.state) (hl : u.load = t.load) : FollowsCycle s u := h.trans (.of_same hd hc hl)

/-- A change of cycle state holds dosing where it leaves the filtering states (R116). -/
theorem followsCycle_enterState (new : CycleState) (s : State) : FollowsCycle s (enterState new s) := by
  refine ⟨?_, (keeps_enterState new s).load⟩
  rw [enterState_eq]
  by_cases hx : (s.cycle.state.filtering && !new.filtering) = true
  · rw [if_pos hx]; exact .inr rfl
  · rw [if_neg hx]; exact .inl ⟨rfl, fun hf => by simpa [hf] using hx⟩

/-! ### The arbiter's reports -/

theorem followsCycle_wasteReport (v : ValveId) (a b : ValveState) (s : State) :
    FollowsCycle s (wasteReport v a b s) := by
  refine .of_same ?_ (by rw [wasteReport_cycle]) (keeps_wasteReport v a b s).load
  rcases wasteReport_cases v a b s with h | h | h <;> rw [h]
  · rcases wasteLeftClosed_cases s with e | e <;> rw [e]; rfl
  · rcases wasteBecameClosed_cases s with e | e <;> rw [e]; rfl

theorem followsCycle_releaseAtLockout (s : State) : FollowsCycle s (releaseAtLockout s) := by
  unfold releaseAtLockout; split
  · exact .of_same rfl rfl rfl
  · exact .refl s

theorem followsCycle_arbiterSurvey (s : State) : FollowsCycle s (arbiterSurvey s) := by
  unfold arbiterSurvey; split <;> exact .of_same rfl rfl rfl

theorem followsCycle_commandSet (set : ValveSet) (s : State) : FollowsCycle s (commandSet set s) :=
  ((followsCycle_wasteReport _ _ _ (commandedTo set s)).trans (followsCycle_wasteReport _ _ _ _)).after rfl rfl rfl

/-! ### The cycle controller -/

theorem followsCycle_lockOut (s : State) : FollowsCycle s (lockOut s) := by
  have hend : ∀ u : State, FollowsCycle u
      (releaseAtLockout
        ((enterState .lockedOut u).setValves ((enterState .lockedOut u).valves.map fun _ c => c.stop))) := fun u =>
    (followsCycle_enterState _ u).trans ((followsCycle_releaseAtLockout _).after rfl rfl rfl)
  unfold lockOut; simp only
  split
  · exact (hend _).after rfl rfl rfl
  · exact hend s

theorem followsCycle_completeWash (o : WashOutcome) (s : State) : FollowsCycle s (completeWash o s) := by
  have hrecorded : ∀ u : State, u.dose = s.dose → u.cycle = s.cycle → u.load = s.load →
      FollowsCycle s (clearRunSeconds (addRecord o u)) := fun u hd hc hl => by
    rw [clearRunSeconds_eq]; exact .of_same hd (by rw [← hc]; rfl) hl
  unfold completeWash; simp only
  refine .then_same (t := ite _ _ _) ?_ rfl rfl rfl
  split
  · exact (hrecorded (setBackoff (releaseFinished s)) rfl rfl rfl).trans (followsCycle_enterState _ _)
  · have hin := ((hrecorded (releaseFinished s) rfl rfl rfl).then_same (u := clearDue _) rfl rfl rfl).trans
      (followsCycle_enterState .inService _)
    split
    · exact hin.then_same rfl rfl rfl
    · exact hin

theorem followsCycle_recoveringSettled (s : State) : FollowsCycle s (recoveringSettled s) := by
  unfold recoveringSettled
  generalize (if s.cycle.due = .none then CycleState.inService else .waiting) = c
  simp only
  split
  · exact (followsCycle_enterState _ s).then_same rfl rfl rfl
  · exact followsCycle_enterState _ s

theorem followsCycle_onSettled (s : State) : FollowsCycle s (onSettled s) := by
  unfold onSettled; split
  · exact followsCycle_completeWash _ s
  · exact followsCycle_recoveringSettled s
  · exact followsCycle_enterState _ s
  · exact .refl s

theorem followsCycle_enterCommanding (new : CycleState) (set : ValveSet) (s : State) :
    FollowsCycle s (enterCommanding new set s) := by
  have h := (followsCycle_enterState new s).trans (followsCycle_commandSet set _)
  unfold enterCommanding; simp only
  split
  · exact h.trans (followsCycle_lockOut _)
  · split
    · exact h.trans (followsCycle_onSettled _)
    · exact h

theorem followsCycle_cutShort (o : WashOutcome) (s : State) : FollowsCycle s (cutShort o s) := by
  rw [cutShort_eq]; exact (followsCycle_enterCommanding _ _ (cutShortAs o s)).after rfl rfl rfl

theorem followsCycle_enterStep (step : CycleState) (s : State) : FollowsCycle s (enterStep step s) := by
  have h := (followsCycle_enterState step s).trans (followsCycle_commandSet (stepSet step) _)
  unfold enterStep; simp only
  split
  · exact h.trans (followsCycle_cutShort _ _)
  · exact h

theorem followsCycle_endBackwash (o : WashOutcome) (s : State) : FollowsCycle s (endBackwash o s) := by
  rw [endBackwash_eq]; exact (followsCycle_enterStep _ (cutShortAs o s)).after rfl rfl rfl

theorem followsCycle_valveFault (s : State) : FollowsCycle s (valveFault s) := by
  have hcontest : FollowsCycle s (endContestAtFault s) := by
    unfold endContestAtFault; split
    · exact .of_same rfl rfl rfl
    · exact .refl s
  unfold valveFault
  cases s.cycle.state with
  | starting | lockedOut => exact .refl s
  | inService | waiting => exact followsCycle_enterCommanding _ _ s
  | contest => exact hcontest.trans (followsCycle_enterCommanding _ _ _)
  | drainDown | airScour | backwash | settle | rinse => exact followsCycle_cutShort _ s
  | recovering | returning | isolating | isolated => exact followsCycle_lockOut s

theorem followsCycle_valveConfirmed (v : ValveId) (s : State) : FollowsCycle s (valveConfirmed v s) := by
  have hmarked : FollowsCycle s (s.setCycle { s.cycle with confirmed := s.cycle.confirmed.mark v }) :=
    .of_same rfl rfl rfl
  unfold valveConfirmed; simp only
  split
  · exact hmarked.trans (followsCycle_onSettled _)
  · exact hmarked

theorem followsCycle_channelEvent (v : ValveId) (x : Valve × Report) (s : State) :
    FollowsCycle s (channelEvent v x s) := by
  have h : FollowsCycle s
      (wasteReport v (s.valves.get v).state x.1.state (s.setValves (s.valves.set v x.1))) :=
    (followsCycle_wasteReport _ _ _ _).after rfl rfl rfl
  unfold channelEvent; simp only
  split
  · exact h
  · exact h.trans (followsCycle_valveConfirmed _ _)
  · exact h.trans (followsCycle_valveFault _)

theorem followsCycle_operatorWash (s : State) : FollowsCycle s (operatorWash s) := by
  unfold operatorWash; split
  · exact (followsCycle_enterState .waiting _).after rfl rfl rfl
  · exact .of_same rfl rfl rfl
  · exact .of_same rfl rfl rfl
  · exact .refl s

/-! ### The contest -/

theorem followsCycle_tryContest (s : State) : FollowsCycle s (tryContest s) := by
  unfold tryContest; split
  · exact (followsCycle_enterState _ _).after rfl rfl rfl
  · exact .refl s

theorem followsCycle_loseContest (counted : Bool) (s : State) : FollowsCycle s (loseContest counted s) := by
  unfold loseContest; simp only
  refine .trans ?_ (followsCycle_enterState _ _)
  split <;> exact .of_same rfl rfl rfl

theorem followsCycle_winContest (u : Nat) (s : State) : FollowsCycle s (winContest u s) :=
  (followsCycle_enterStep .drainDown (clearOutcome (takeHold u s))).after rfl rfl rfl

theorem followsCycle_takeOverlap (e : PeerEntry) (s : State) : FollowsCycle s (takeOverlap e s) := by
  have hcounted : FollowsCycle s (s.setArb { s.arb with overlaps := satInc s.arb.overlaps }) := .of_same rfl rfl rfl
  unfold takeOverlap; simp only
  split
  · exact hcounted.trans (followsCycle_cutShort _ _)
  · exact hcounted

theorem followsCycle_changeReport (e : Option PeerEntry) (s : State) : FollowsCycle s (changeReport e s) := by
  unfold changeReport
  split
  · split
    · exact .refl s
    · exact followsCycle_loseContest _ s
  · split
    · split
      · exact .refl s
      · split
        · exact .refl s
        · exact followsCycle_takeOverlap _ s
    · exact followsCycle_tryContest s

theorem followsCycle_endContestUncounted (s : State) : FollowsCycle s (endContestUncounted s) := by
  unfold endContestUncounted; split
  · exact followsCycle_loseContest _ s
  · exact .refl s

theorem followsCycle_linkOffReport (s : State) : FollowsCycle s (linkOffReport s) := by
  unfold linkOffReport
  split
  · exact followsCycle_cutShort _ s
  · split
    · refine .trans ?_ (followsCycle_enterState _ _)
      split
      · exact .of_same rfl rfl rfl
      · exact .refl s
    · exact .refl s

theorem followsCycle_abandonWash (s : State) : FollowsCycle s (abandonWash s) := by
  unfold abandonWash; simp only
  split
  · exact followsCycle_cutShort _ s
  · refine .trans (t := clearDue _) (.then_same (t := ite _ _ _) ?_ rfl rfl rfl) (followsCycle_enterState _ _)
    split
    · exact .of_same rfl rfl rfl
    · exact .refl s

end Sys2Proof.Machine
end

section
/-! SUPPORT. Every command and every tick keeps the dosing law: the law across the parts of an event, the bodies of the
events one by one, what arrives, and the step. -/

namespace Sys2Proof.Machine

/-! ### The law across the parts of an event -/

/-- A part of an event that reaches dosing through the cycle alone keeps the law, where it does not leave STARTING
before the load has settled. -/
theorem DosingOk.of_follows {s t : State} (h : DosingOk s) (k : FollowsCycle s t)
    (hst : s.cycle.state = .starting → t.cycle.state = .starting ∨ s.scanning = true) : DosingOk t := by
  have hunit : t.dose.Lawful t.cycle.state.filtering s.load.config := by
    rcases k.dose with ⟨hd, hf⟩ | hd <;> rw [hd]
    · have hlawful := DosingLawful.unit h
      exact { hlawful with paced := fun hp => (hlawful.paced hp).imp_left hf }
    · exact (DosingLawful.unit h).holdOnExit _
  unfold DosingOk; rw [k.load]
  refine { h with unit := hunit, begun := fun ht => ?_ }
  by_cases h0 : s.cycle.state = .starting
  · exact (hst h0).resolve_left ht
  · exact DosingLawful.begun h h0

/-- A part that is taken outside STARTING alone. -/
theorem DosingOk.of_follows_of_ne {s t : State} (h : DosingOk s) (k : FollowsCycle s t)
    (hst : s.cycle.state ≠ .starting) : DosingOk t := h.of_follows k fun h0 => absurd h0 hst

/-- A part that has no effect in STARTING. -/
theorem DosingOk.of_follows_of_idle {s t : State} (h : DosingOk s) (k : FollowsCycle s t)
    (hst : s.cycle.state = .starting → t = s) : DosingOk t :=
  h.of_follows k fun h0 => .inl (by rw [hst h0]; exact h0)

theorem DosingOk.setInputs {s : State} (h : DosingOk s) (x : Inputs) : DosingOk (s.setInputs x) := h

theorem DosingOk.setPeers {s : State} (h : DosingOk s) (x : PeerTable) : DosingOk (s.setPeers x) := h

theorem DosingOk.setReq {s : State} (h : DosingOk s) (x : Requests) : DosingOk (s.setReq x) := h

/-- A change of the dosing unit alone. -/
theorem DosingOk.setDose {s : State} (h : DosingOk s) {d : Dosing}
    (hd : d.Lawful s.cycle.state.filtering s.load.config) : DosingOk (s.setDose d) := { h with unit := hd }

theorem dosingOk_event {b : Bool} {body : State → State} {s t : State} (h : DosingOk s) (hb : DosingOk (body s))
    (he : event b body s = .next t) : DosingOk t := by
  rcases event_cases he with ⟨-, rfl⟩ | ⟨-, rfl⟩
  · exact h
  · rw [finish_eq]; exact hb

theorem dosingOk_whenDue {due : Bool} {effect : State → State} {s : State} (h : DosingOk s)
    (he : due = true → DosingOk (effect s)) : DosingOk (whenDue due effect s) := by
  unfold whenDue; split
  next hd => exact he hd
  · exact h

/-- A reset holds dosing and keeps of it the stroke count at most (R109, R159). -/
theorem dosingOk_resetStation {s : State} (h : DosingOk s) (k : ResetKind) : DosingOk (resetStation k s) := by
  have hstrokes : k.keep s.dose.strokeCount 0 ≤ 65535 := by
    cases k with
    | power => exact Nat.zero_le _
    | line | request => exact (DosingLawful.unit h).strokeCount
  have hunit : (s.dose.atReset k).Lawful false builtInDefaults :=
    { elapsed := Nat.zero_le _, missCount := Nat.zero_le _, strokeCount := hstrokes, readingAge := Nat.le_refl _
      windows := nofun, paced := nofun, idle := fun _ => rfl, absent := fun _ => ⟨rfl, rfl, rfl⟩, present := nofun
      latch := ⟨nofun, nofun⟩ }
  exact { unit := hunit, minLow := (by decide : 30 ≤ builtInDefaults.minStrokeInterval)
          minTop := (by decide : builtInDefaults.minStrokeInterval ≤ 300), begun := fun hst => absurd rfl hst }

/-! ### The load and the start -/

/-- The min stroke interval is 30-300 in every working configuration: twice the stroke width is 40 at most (R164,
R165). -/
theorem settledConfig_minStrokeInterval (outcome : LoadOutcome) (block : List Byte) :
    30 ≤ (settledConfig outcome block).1.minStrokeInterval
      ∧ (settledConfig outcome block).1.minStrokeInterval ≤ 300 := by
  cases outcome with
  | good =>
    have hmin : (settledConfig .good block).1.minStrokeInterval =
        max (clampTo 30 300 (storedConfig block).minStrokeInterval)
          (2 * clampTo 2 20 (storedConfig block).strokeWidth) := rfl
    have hfield := clampTo_bounds (by decide : 30 ≤ 300) (storedConfig block).minStrokeInterval
    have hwidth := clampTo_bounds (by decide : 2 ≤ 20) (storedConfig block).strokeWidth
    omega
  | absent | checksum | version =>
    exact (by decide : 30 ≤ builtInDefaults.minStrokeInterval ∧ builtInDefaults.minStrokeInterval ≤ 300)

/-- Until the load settles the station is in STARTING, where nothing is paced that a new configuration could bound
(R116, R162). -/
theorem dosingOk_settleLoad {s : State} (h : DosingOk s) (acks : Bool) (block : List Byte) :
    DosingOk (settleLoad acks block s) := by
  unfold settleLoad; split
  · exact h
  next hload =>
    have hlawful := DosingLawful.unit h
    have hstarting : s.cycle.state = .starting := Classical.byContradiction fun hne => by
      have := DosingLawful.begun h hne
      rw [hload] at this; cases this
    have hidle : s.dose.mode.paces = false := by
      rw [Bool.eq_false_iff]; intro hp
      have := (hlawful.paced hp).1
      rw [hstarting] at this; cases this
    have hbounds := settledConfig_minStrokeInterval (judgeBlock acks block) block
    exact ⟨hlawful.of_idle hidle _, hbounds.1, hbounds.2, fun _ => rfl⟩

/-- STARTING ends once the load has settled (R161, R162). -/
theorem dosingOk_endStarting {s : State} (h : DosingOk s) : DosingOk (endStarting s) := by
  unfold endStarting; split
  next hs =>
    have hscan : s.scanning = true := by
      simp only [startingOver, Bool.and_eq_true] at hs; exact hs.1.2
    have hsurvey : FollowsCycle s (arbiterSurvey (s.setValves (s.valves.map fun _ c => c.survey))) :=
      (followsCycle_arbiterSurvey _).after rfl rfl rfl
    simp only
    generalize arbiterSurvey (s.setValves (s.valves.map fun _ c => c.survey)) = u at hsurvey ⊢
    have hu : DosingOk u := h.of_follows hsurvey fun _ => .inr hscan
    refine (hu.setDose (d := { u.dose with periodCount := 0 }) { DosingLawful.unit hu with }).of_follows
      (followsCycle_enterCommanding _ _ _) fun _ => .inr ?_
    unfold State.scanning; rw [State.setDose_load, hsurvey.load]; exact hscan
  · exact h

/-! ### The second tick -/

theorem evaluateDue_filtering {s : State} (h : s.cycle.state.filtering = true) :
    (evaluateDue s).cycle.state.filtering = true := by
  rcases evaluateDue_cases s with he | ⟨r, he⟩ | ⟨r, he⟩ <;> rw [he]
  · exact h
  · rw [raiseDue, enterState_cycle]; rfl
  · exact h

/-- The cycle controller and the contest entry of a second tick move between filtering states alone (R3, R92). -/
theorem cycleSecond_filtering (s : State) : (cycleSecond s).cycle.state.filtering = s.cycle.state.filtering := by
  cases hf : s.cycle.state.filtering with
  | false => rw [cycleSecond_not_filtering hf]; exact hf
  | true =>
    by_cases hw : s.cycle.state = .waiting
    · rw [cycleSecond_of_waiting hw]
      refine evaluateDue_filtering ?_
      rw [State.setCycle_cycle, Cycle.countWait_state]; exact hf
    · rw [cycleSecond_of_filtering hf hw]
      exact evaluateDue_filtering (s := s.setCycle s.cycle.countRun) hf

theorem tryContest_filtering (s : State) : (tryContest s).cycle.state.filtering = s.cycle.state.filtering := by
  rcases tryContest_cycle s with h | ⟨hw, h⟩ <;> rw [h]
  rw [hw]; rfl

theorem followsCycle_cycleSecond (s : State) : FollowsCycle s (cycleSecond s) :=
  ⟨.inl ⟨cycleSecond_dose s, fun hf => by rw [cycleSecond_filtering]; exact hf⟩, (keeps_cycleSecond s).load⟩

/-- FAULT is decided at a set latch alone (R115). -/
theorem decidedMode_fault_iff (s : State) : s.decidedMode = .fault ↔ s.dose.faultLatch = true := by
  unfold State.decidedMode; simp only
  split
  next hl => exact ⟨fun _ => hl, fun _ => rfl⟩
  next hl =>
    refine ⟨fun h => ?_, fun h => absurd h hl⟩
    split at h
    · cases h
    · split at h <;> cases h

/-- Pacing is decided in a filtering state alone (R115, R116). -/
theorem decidedMode_filtering {s : State} (h : s.decidedMode.paces = true) : s.cycle.state.filtering = true := by
  cases hf : s.cycle.state.filtering with
  | true => rfl
  | false =>
    have hmode : s.decidedMode = if s.dose.faultLatch then .fault else .held := by simp [State.decidedMode, hf]
    rw [hmode] at h
    split at h <;> cases h

/-- No dose is formed but in BASE and TRIMMED (R115, R117). -/
theorem doseOf_of_not_paces {mode : DosingMode} (h : mode.paces = false) (cfg : WorkingConfig) (f : Nat) :
    doseOf cfg mode f = 0 := by
  cases mode with
  | held | fault => exact Nat.min_zero _
  | base | trimmed => cases h

theorem dosingOk_decideDosing {s : State} (h : DosingOk s) : DosingOk (decideDosing s) := by
  have htop : s.cfg.minStrokeInterval ≤ 65535 := Nat.le_trans (DosingLawful.minTop h) (by decide)
  exact h.setDose ((DosingLawful.unit h).toInRange.recompute decidedMode_filtering (decidedMode_fault_iff s).symm
    (fun hp => doseOf_of_not_paces hp _ _) (doseOf_le _ _ _) (intervalOf_bounds htop _ _).1 _)

theorem dosingOk_dosingSecond {s : State} (h : DosingOk s) : DosingOk (dosingSecond s) := by
  have hown : DosingOk (sampleOwnChannels s) := by
    unfold sampleOwnChannels; split
    · exact h.setDose { DosingLawful.unit h with readingAge := Nat.zero_le _ }
    · exact h
  have hperiod : ∀ {u : State}, DosingOk u → DosingOk (countReadingPeriod u) := by
    intro u hu
    unfold countReadingPeriod; split
    · split
      · exact hu.setDose { DosingLawful.unit hu with }
      · exact hu.setDose { DosingLawful.unit hu with }
    · exact hu
  exact dosingOk_decideDosing (hperiod hown)

/-- In STARTING a second tick leaves the cycle there (R31). -/
theorem dosingOk_secondWork {s : State} (h : DosingOk s) : DosingOk (secondWork s) := by
  have hscanner : DosingOk (scannerSecond s) := h
  have hcycle := hscanner.of_follows_of_idle (followsCycle_cycleSecond _) fun h0 =>
    cycleSecond_not_filtering (by rw [h0]; rfl)
  have hcontest := hcycle.of_follows_of_idle (followsCycle_tryContest _) fun h0 =>
    tryContest_eq_self (by rw [h0]; nofun)
  exact dosingOk_dosingSecond hcontest

theorem dosingOk_secondAt {happens : Bool} {s t : State} (h : DosingOk s) (he : secondAt happens s = .next t) :
    DosingOk t := by
  rcases secondAt_cases happens s with hc | hc <;> rw [hc] at he
  · exact dosingOk_event h (dosingOk_secondWork h) he
  · cases he; exact h

/-! ### The bodies of the events -/

theorem dosingOk_takeConversion {s : State} (h : DosingOk s) (ch : ChannelId) (count : BitVec 12) :
    DosingOk (takeConversion ch count s) := by
  cases hd : (s.scan.channels.get ch).due with
  | false => rw [takeConversion_off_its_tick count hd]; exact h
  | true =>
    rw [takeConversion_due hd]
    have hstate := clearJudged_state ch (convertedRecord ch count s) s.cfg.wasteClearLevel s.cycle
    unfold DosingOk; simp only [hstate]; exact h

theorem dosingOk_channelEvent {s : State} (h : DosingOk s) (v : ValveId) (x : Valve × Report) :
    DosingOk (channelEvent v x s) :=
  h.of_follows (followsCycle_channelEvent v x s) fun h0 => .inl (channelEvent_of_starting h0 v x)

theorem dosingOk_takeSwitch {s : State} (h : DosingOk s) (v : ValveId) (p : Position) (level : Bool) :
    DosingOk (takeSwitch v p level s) := by
  unfold takeSwitch; simp only
  split
  · exact h
  · split
    · exact h
    · exact dosingOk_channelEvent h _ _

theorem dosingOk_cutShort {s : State} (h : DosingOk s) (hw : s.cycle.state.washStep = true) (o : WashOutcome) :
    DosingOk (cutShort o s) :=
  h.of_follows_of_ne (followsCycle_cutShort o s) fun h0 => by rw [h0] at hw; cases hw

theorem dosingOk_endContestUncounted {s : State} (h : DosingOk s) : DosingOk (endContestUncounted s) :=
  h.of_follows_of_idle (followsCycle_endContestUncounted s) endContestUncounted_of_starting

theorem dosingOk_operatorWash {s : State} (h : DosingOk s) : DosingOk (operatorWash s) :=
  h.of_follows_of_idle (followsCycle_operatorWash s) operatorWash_of_starting

theorem dosingOk_risingEdge {s : State} (h : DosingOk s) (i : DiscreteInput) : DosingOk (risingEdge i s) := by
  cases i with
  | manualWash =>
    simp only [risingEdge, pressManualWash]; split
    · exact h
    · exact dosingOk_operatorWash h
  | inhibitKey =>
    simp only [risingEdge, keyAsserts]; split
    · exact h
    · exact dosingOk_endContestUncounted h
  | tankLow =>
    simp only [risingEdge, tankRunsLow]; split
    next hw => exact dosingOk_cutShort h hw _
    · exact dosingOk_endContestUncounted h
  | flowOk => exact h
  | doseFb => exact h.setDose (DosingLawful.unit h).feedback

theorem dosingOk_takeInput {s : State} (h : DosingOk s) (i : DiscreteInput) (level : Bool) :
    DosingOk (takeInput i level s) := by
  unfold takeInput; simp only
  split
  · exact h
  · split
    · exact dosingOk_risingEdge (h.setInputs _) i
    · exact h

/-- The end of a step's time, as the next step or RETURNING takes it. -/
theorem dosingOk_of_stepDone {s : State} (h : DosingOk s) {step : CycleState} {seconds : Nat} {effect : State → State}
    (hw : step.washStep = true) (k : FollowsCycle s (effect s)) :
    DosingOk (whenDue (stepDone step seconds s) effect s) :=
  dosingOk_whenDue h fun hd => h.of_follows_of_ne k fun h0 => by
    obtain ⟨hs, -⟩ := (stepDone_iff _ _ _).1 hd
    rw [← hs, h0] at hw; cases hw

theorem dosingOk_clearHoldReached {s : State} (h : DosingOk s) : DosingOk (clearHoldReached s) :=
  dosingOk_whenDue h fun hc =>
    h.of_follows_of_ne (followsCycle_endBackwash _ s) (by rw [backwashClear_state hc]; nofun)

theorem dosingOk_backwashOver {s : State} (h : DosingOk s) : DosingOk (backwashOver s) := by
  unfold backwashOver; split
  next hc => exact h.of_follows_of_ne (followsCycle_endBackwash _ s) (by rw [backwashClear_state hc]; nofun)
  · exact dosingOk_of_stepDone h rfl (followsCycle_endBackwash _ s)

/-! ### What arrives -/

theorem dosingOk_changeEntry {s : State} (h : DosingOk s) (p : Nat) (e : Option PeerEntry) (b : Bool) :
    DosingOk (changeEntry p e b s) := by
  have hput : DosingOk (withEntry p e s) := h
  rcases changeEntry_cases p e b s with hc | hc <;> rw [hc]
  · exact hput
  · exact hput.of_follows_of_idle (followsCycle_changeReport _ _) fun h0 => changeReport_of_starting h0 _

theorem dosingOk_lapseStatus {s : State} (h : DosingOk s) (p : Nat) : DosingOk (lapseStatus p s) := by
  unfold lapseStatus; split
  · split
    · exact dosingOk_changeEntry (h.setPeers _) _ _ _
    · exact h
  · exact h

theorem dosingOk_lapseIntent {s : State} (h : DosingOk s) (p : Nat) : DosingOk (lapseIntent p s) := by
  unfold lapseIntent; split
  · split
    · exact dosingOk_changeEntry h _ _ _
    · exact h
  · exact h

theorem dosingOk_lapseHold {s : State} (h : DosingOk s) (p : Nat) : DosingOk (lapseHold p s) := by
  unfold lapseHold; split
  · split
    · exact dosingOk_changeEntry (h.setPeers _) _ _ _
    · exact h
  · exact h

theorem dosingOk_receiveClaim {s : State} (h : DosingOk s) (p g : Nat) (data : List Byte) :
    DosingOk (receiveClaim p g data s) := by
  unfold receiveClaim; split
  · exact h
  · split
    · split
      · exact h
      · exact dosingOk_changeEntry h _ _ _
    · split
      · exact h
      · exact dosingOk_changeEntry h _ _ _
    · split
      · exact h
      · exact dosingOk_changeEntry h _ _ _
    · exact h

theorem dosingOk_receiveReading {s : State} (h : DosingOk s) (p g : Nat) (data : List Byte) :
    DosingOk (receiveReading p g data s) := by
  have hpeer : ∀ {u : State}, DosingOk u → DosingOk (peerReading p g u) := by
    intro u hu
    unfold peerReading; split
    · exact hu
    · exact dosingOk_changeEntry hu _ _ _
  unfold receiveReading; split
  · exact h
  · split
    · exact h
    · exact hpeer (h.setDose ((DosingLawful.unit h).takeReading _ _ _ _ _))

theorem dosingOk_receiveStatus {s : State} (h : DosingOk s) (p g : Nat) (data : List Byte) :
    DosingOk (receiveStatus p g data s) := by
  unfold receiveStatus; split
  · exact h
  · split
    · exact h
    · exact dosingOk_changeEntry h _ _ _

/-- DOSE_RESET is taken in FAULT alone (R125, R144). -/
theorem dosingOk_carryOut {s : State} (h : DosingOk s) (hst : s.cycle.state ≠ .starting) {code : RequestCode}
    (ht : takenInState code s = true) : DosingOk (carryOut code s) := by
  cases code with
  | washNow => exact dosingOk_operatorWash h
  | abandonWash => exact h.of_follows_of_ne (followsCycle_abandonWash s) hst
  | inhibitSet =>
    simp only [carryOut, setInhibit]; split
    · exact h
    · exact dosingOk_endContestUncounted (h.setReq _)
  | isolate => exact DosingOk.of_follows_of_ne (s := clearDue s) h (followsCycle_enterCommanding _ _ _) hst
  | returnToService => exact h.of_follows_of_ne (followsCycle_enterCommanding _ _ s) hst
  | doseReset => exact h.setDose ((DosingLawful.unit h).clearFault (by simpa [takenInState] using ht))
  | clearCounters => exact h.setDose { DosingLawful.unit h with }
  | inhibitClear | readCounters | readWashRecord | restart | clearResetCause => exact h

theorem dosingOk_handleRequest {s : State} (h : DosingOk s) (panel code arg : Nat) :
    DosingOk (handleRequest panel code arg s) := by
  unfold handleRequest; split
  · exact h
  next hst =>
    split
    · exact h
    · split
      · exact h
      · split
        next hj =>
          unfold takeRequest; simp only
          split
          · exact dosingOk_resetStation h _
          · exact dosingOk_carryOut h hst (takenInState_of_taken hj)
        all_goals exact h

/-- A frame the link hands on, by its kind (R130). -/
theorem dosingOk_judgeFrame {s : State} (h : DosingOk s) (kind g p : Nat) (data : List Byte) :
    DosingOk (judgeFrame kind g p data s) := by
  unfold judgeFrame
  split
  · exact h
  split
  · exact h
  split
  · exact dosingOk_receiveClaim h _ _ _
  split
  · split
    · exact dosingOk_receiveReading h _ _ _
    · exact h
  split
  · exact dosingOk_receiveStatus h _ _ _
  split
  · unfold receiveRequest; split
    · exact h
    · exact dosingOk_handleRequest h _ _ _
  · exact h

theorem dosingOk_receive {s : State} (h : DosingOk s) (f : RxFrame) : DosingOk (receive f s) := by
  have hheard : DosingOk (heard s) := h
  unfold receive; simp only
  split
  · exact hheard
  · exact dosingOk_judgeFrame hheard _ _ _ _

/-! ### The link and the arbiter -/

theorem dosingOk_failAttempt {s : State} (h : DosingOk s) : DosingOk (failAttempt s) := by
  have hfailed : DosingOk (s.setLink s.link.fail) := h
  unfold failAttempt; simp only
  split
  · split
    · exact dosingOk_resetStation hfailed _
    · exact hfailed.of_follows_of_idle (followsCycle_linkOffReport _) linkOffReport_of_starting
  · exact hfailed

theorem dosingOk_signalError {s : State} (h : DosingOk s) : DosingOk (signalError s) := by
  unfold signalError; split
  · exact h
  · exact dosingOk_failAttempt h
  · exact dosingOk_failAttempt h

theorem dosingOk_completeTx {s : State} (h : DosingOk s) : DosingOk (completeTx s) := by
  have hdone : DosingOk (s.setLink s.link.complete) := h
  unfold completeTx; split
  · exact h
  · unfold reportCompletion windowStarts; split
    · split
      · split <;> exact h
      all_goals exact h
    · split
      · exact dosingOk_resetStation hdone _
      · exact h
    all_goals exact h

theorem dosingOk_windowExpires {s : State} (h : DosingOk s) : DosingOk (windowExpires s) := by
  unfold windowExpires; split
  · split
    next hc =>
      simp only [Bool.and_eq_true, decide_eq_true_eq] at hc
      exact h.of_follows_of_ne (followsCycle_winContest _ s) (by rw [hc.1.1]; nofun)
    · exact h
  all_goals exact h

theorem dosingOk_refreshHold {s : State} (h : DosingOk s) : DosingOk (refreshHold s) := by
  unfold refreshHold; split
  · split <;> exact h
  all_goals exact h

/-! ### The step -/

/-- Every command keeps the dosing law. -/
theorem dosingOk_exec {c : Instr} {s t : State} (h : DosingOk s) (he : exec c s = .next t) : DosingOk t := by
  have hunit := DosingLawful.unit h
  cases c with
  | powerReset straps => cases he; exact dosingOk_resetStation (s := (setStraps straps s).setSupplyOk true) h _
  | supplyFallsBelowOperatingRange => cases he; exact dosingOk_resetStation (s := s.setSupplyOk false) h _
  | lineReset straps =>
    simp only [exec, execLineReset] at he; cases he
    split
    · exact dosingOk_resetStation (s := setStraps straps s) h _
    · exact h
  | configurationLoadSettles a b r block => exact dosingOk_event h (dosingOk_settleLoad h _ _) he
  | startingEnd => exact dosingOk_event h (dosingOk_endStarting h) he
  | secondTick => exact dosingOk_event h (dosingOk_secondWork h) he
  | loadingHoldReached | breakthroughHoldReached | waitMinute | readingPeriod => exact dosingOk_secondAt h he
  | conversion ch count => exact dosingOk_event h (dosingOk_takeConversion h ch count) he
  | clearHoldReached => exact dosingOk_event h (dosingOk_clearHoldReached h) he
  | drainDownEnd =>
    exact dosingOk_event h (dosingOk_of_stepDone (effect := endDrainDown) h rfl (followsCycle_enterStep _ s)) he
  | airScourEnd | settleEnd => exact dosingOk_event h (dosingOk_of_stepDone h rfl (followsCycle_enterStep _ s)) he
  | backwashEnd => exact dosingOk_event h (dosingOk_backwashOver h) he
  | rinseEnd => exact dosingOk_event h (dosingOk_of_stepDone h rfl (followsCycle_enterCommanding _ _ s)) he
  | limitSwitchChange v p level => exact dosingOk_event h (dosingOk_takeSwitch h v p level) he
  | reversalPauseEnd v | travelTimeout v =>
    exact dosingOk_event h (dosingOk_whenDue h fun _ => dosingOk_channelEvent h _ _) he
  | manualWashEdge | inhibitKeyChange _ | tankLowAssert | doseFbEdge | debouncedInputChange _ _ =>
    exact dosingOk_event h (dosingOk_takeInput h _ _) he
  | claimIntentArrival _ _ _ | claimHoldArrival _ _ _ | claimReleaseArrival _ _ _ | statusArrival _ _ _
  | readingArrival _ _ _ | answerArrival _ | washNow _ _ _ _ | abandonWash _ _ _ _ | inhibitSet _ _ _ _
  | inhibitClear _ _ _ _ | isolate _ _ _ _ | returnToService _ _ _ _ | doseReset _ _ _ _ | readCounters _ _ _ _
  | clearCounters _ _ _ _ | readWashRecord _ _ _ _ | restart _ _ _ _ | clearResetCause _ _ _ _
  | unknownRequest _ _ _ _ _ => exact dosingOk_event h (dosingOk_receive h _) he
  | rxSignalError => exact dosingOk_event h (dosingOk_signalError h) he
  | statusLapse p => exact dosingOk_event h (dosingOk_lapseStatus h _) he
  | intentLapse p => exact dosingOk_event h (dosingOk_lapseIntent h _) he
  | holdLapse p => exact dosingOk_event h (dosingOk_lapseHold h _) he
  | contestWindowExpiry => exact dosingOk_event h (dosingOk_windowExpires h) he
  | holdRefresh => exact dosingOk_event h (dosingOk_refreshHold h) he
  | txFailure => exact dosingOk_event h (dosingOk_whenDue h fun _ => dosingOk_failAttempt h) he
  | txCompletion => exact dosingOk_event h (dosingOk_completeTx h) he
  | txAttemptStart => exact dosingOk_event (body := fun s => s.setLink s.link.startAttempt) h h he
  | lossOfTheMedium => exact dosingOk_event (body := fun s => s.setLink s.link.loseMedium) h h he
  | backoffEnd | offPeriodEnd | connectedLapse => exact dosingOk_event h (dosingOk_whenDue h fun _ => h) he
  | readingStale =>
    have hstale := h.setDose (d := { s.dose with readingAge := 2000 }) { hunit with readingAge := Nat.le_refl _ }
    exact dosingOk_event h (dosingOk_whenDue h fun _ => hstale) he
  | stroke => exact dosingOk_event h (dosingOk_whenDue h fun _ => h.setDose (hunit.beginStroke _)) he
  | pulseEnd =>
    have hended := h.setDose (d := { s.dose with pulse := 0 }) { hunit with }
    exact dosingOk_event h (dosingOk_whenDue h fun _ => hended) he
  | feedbackMiss => exact dosingOk_event h (dosingOk_whenDue h fun _ => h.setDose hunit.miss) he

/-- A tick counts the pacer, the reading age and the window ages in their ranges, and leaves the cycle state. -/
theorem dosingOk_tick {s : State} (h : DosingOk s) : DosingOk (tick s) := by
  have hstate : s.cycle.countTick.state = s.cycle.state := by
    unfold Cycle.countTick; split <;> rfl
  have hunit := ((DosingLawful.unit h).countTick s.sampleHolder).pacerTick (s.secondNow && Config.pacerLate s.serial)
  have hcounted : DosingOk (countAll s) := by
    unfold DosingOk countAll; simp only [hstate]; exact { h with unit := hunit }
  unfold tick; split
  · exact hcounted
  · exact h

/-- Settles O59: the dosing law is inductive by itself, since a filtering state is left through `enterState` alone,
which holds dosing (R116), and a mode that paces is decided in a filtering state alone (R115). -/
theorem everyStepKeepsTheDosingLaw : Obligations.EveryStepKeepsTheDosingLaw := by
  intro s t h hst
  rw [dosingLaw_iff] at h ⊢
  unfold step at hst
  split at hst
  · cases hst; exact dosingOk_tick h
  next c rest _ => exact dosingOk_exec (s := s.setPending rest) h hst

end Sys2Proof.Machine
end

section
/-! SUPPORT. What a second tick leaves of the dosing unit: the record on which the mode is decided (R110), the mode
(R115), d and I (R117, R118), and the stroke or the count of the pacer (R119 to R121). -/

namespace Sys2Proof.Machine

/-! ### The record of a second tick -/

/-- The free chlorine on which a second tick decides: a sample holder's own, else the record's (R110). -/
def State.decidedF (s : State) : Nat :=
  if s.sampleHolder then s.scan.channels.chlorine.value else s.dose.readingF

/-- The pH on which a second tick decides (R110). -/
def State.decidedPh (s : State) : Nat := if s.sampleHolder then s.scan.channels.ph.value else s.dose.readingPh

/-- The record is fresh and of a good analyser (R110, R115). -/
def State.recordGood (s : State) : Bool :=
  if s.sampleHolder then !s.scan.channels.chlorine.isFaulted && !s.scan.channels.ph.isFaulted
  else s.dose.source.isSome && s.dose.readingAge < 2000 && s.dose.analyser = .good

/-- `n` has what a mode decision reads of `s`, and the dosing unit of `s` but for the record and the reading period. -/
structure DecidesFor (s n : State) : Prop where
  load      : n.load = s.load
  inputs    : n.inputs = s.inputs
  channels  : n.scan.channels = s.scan.channels
  qminAbs   : n.scan.qminAbs = s.scan.qminAbs
  filtering : n.cycle.state.filtering = s.cycle.state.filtering
  good      : (n.dose.fresh && decide (n.dose.analyser = .good)) = s.recordGood
  dose      : ∃ source analyser age count, n.dose =
    { s.dose with
      source := source, readingF := s.decidedF, readingPh := s.decidedPh, analyser := analyser, readingAge := age,
      periodCount := count }

/-- The blocks before the dosing unit reach nothing that it reads (R47). -/
structure BeforeDosing (s m : State) : Prop where
  load      : m.load = s.load
  inputs    : m.inputs = s.inputs
  channels  : m.scan.channels = s.scan.channels
  qminAbs   : m.scan.qminAbs = s.scan.qminAbs
  filtering : m.cycle.state.filtering = s.cycle.state.filtering
  dose      : m.dose = s.dose

theorem beforeDosing_secondWork (s : State) : BeforeDosing s (tryContest (cycleSecond (scannerSecond s))) := by
  have hkeeps := ((keeps_scannerSecond s).trans (keeps_cycleSecond _)).trans (keeps_tryContest _)
  obtain ⟨hchannels, hqmin, -⟩ := s.loaded_frame
  have hscan : (tryContest (cycleSecond (scannerSecond s))).scan = (scannerSecond s).scan := by
    rw [tryContest_scan, cycleSecond_scan]
  refine ⟨hkeeps.load, hkeeps.inputs, ?_, ?_, ?_, ?_⟩
  · rw [hscan, scannerSecond_scan]; exact hchannels
  · rw [hscan, scannerSecond_scan]; exact hqmin
  · rw [tryContest_filtering, cycleSecond_filtering]; rfl
  · rw [tryContest_dose, cycleSecond_dose]; rfl

/-- A reading period's end reaches the link and the period's count alone (R111). -/
theorem countReadingPeriod_eq (s : State) :
    ∃ count l, countReadingPeriod s = (s.setDose { s.dose with periodCount := count }).setLink l := by
  unfold countReadingPeriod; split
  · split
    · exact ⟨0, _, rfl⟩
    · exact ⟨s.dose.periodCount + 1, s.link, rfl⟩
  · exact ⟨s.dose.periodCount, s.link, rfl⟩

theorem decidesFor_sampleOwnChannels {s m : State} (h : BeforeDosing s m) : DecidesFor s (sampleOwnChannels m) := by
  have hholder : m.sampleHolder = s.sampleHolder := by unfold State.sampleHolder State.cfg; rw [h.load]
  cases hh : s.sampleHolder with
  | true =>
    have hown : sampleOwnChannels m =
        m.setDose (m.dose.takeOwnReading m.load.station m.scan.channels.chlorine m.scan.channels.ph) := by
      unfold sampleOwnChannels; rw [hholder, if_pos hh]
    rw [hown]
    refine { h with good := ?_, dose := ?_ }
    · simp only [State.recordGood, hh, if_true, State.setDose_dose, Dosing.takeOwnReading, Dosing.fresh, h.channels]
      cases s.scan.channels.chlorine.isFaulted <;> cases s.scan.channels.ph.isFaulted <;> rfl
    · simp only [State.decidedF, State.decidedPh, hh, if_true, State.setDose_dose, Dosing.takeOwnReading, h.channels,
        h.dose]
      exact ⟨_, _, _, _, rfl⟩
  | false =>
    have hother : sampleOwnChannels m = m := by
      unfold sampleOwnChannels; rw [hholder, hh]; rfl
    rw [hother]
    refine { h with good := ?_, dose := ?_ }
    · simp only [State.recordGood, hh, Dosing.fresh, h.dose]; rfl
    · simp only [State.decidedF, State.decidedPh, hh, h.dose]
      exact ⟨_, _, _, _, rfl⟩

theorem decidesFor_countReadingPeriod {s n : State} (h : DecidesFor s n) : DecidesFor s (countReadingPeriod n) := by
  obtain ⟨count, l, heq⟩ := countReadingPeriod_eq n
  obtain ⟨source, analyser, age, old, hdose⟩ := h.dose
  rw [heq]
  exact { h with
          dose := ⟨source, analyser, age, count, by rw [State.setLink_dose, State.setDose_dose, hdose]⟩ }

/-- A second tick decides the mode on a state that has what the decision reads of the state before the tick. -/
theorem secondWork_decides (s : State) : ∃ n, DecidesFor s n ∧ secondWork s = decideDosing n :=
  ⟨_, decidesFor_countReadingPeriod (decidesFor_sampleOwnChannels (beforeDosing_secondWork s)), rfl⟩

/-! ### The mode, d and I -/

/-- The mode is that of the first line of R115 that holds. -/
theorem decidedMode_eq {s n : State} (h : DecidesFor s n) :
    n.decidedMode =
      if s.dose.faultLatch then .fault
      else if s.cycle.state.filtering = false ∨ s.restricted = true ∨ s.inputs.flowOk.level = false
          ∨ s.scan.channels.flow.isFaulted = true ∨ s.scan.channels.flow.value < s.scan.qminAbs
          ∨ (s.recordGood = true ∧ s.cfg.highCut ≤ s.decidedF) then .held
      else if s.recordGood = true ∧ s.cfg.phLow ≤ s.decidedPh ∧ s.decidedPh ≤ s.cfg.phHigh then .trimmed
      else .base := by
  obtain ⟨source, analyser, age, count, hdose⟩ := h.dose
  have hlatch : n.dose.faultLatch = s.dose.faultLatch := by rw [hdose]
  have hf : n.dose.readingF = s.decidedF := by rw [hdose]
  have hph : n.dose.readingPh = s.decidedPh := by rw [hdose]
  have hrestricted : n.restricted = s.restricted := by unfold State.restricted; rw [h.load]
  have hcfg : n.cfg = s.cfg := by unfold State.cfg; rw [h.load]
  unfold State.decidedMode
  simp only [h.good, hlatch, hf, hph, hrestricted, hcfg, h.inputs, h.channels, h.qminAbs, h.filtering,
    Bool.or_eq_true, Bool.and_eq_true, Bool.not_eq_true', decide_eq_true_eq, or_assoc, and_assoc]

/-- The dose by its mode, before and after the clamp (R117). -/
theorem doseOf_eq (cfg : WorkingConfig) (mode : DosingMode) (f : Nat) :
    doseOf cfg mode f =
      match mode with
      | .held | .fault => 0
      | .base => min cfg.maxDose cfg.baseDose
      | .trimmed =>
        min cfg.maxDose ((cfg.baseDose : Int) + (((cfg.setpoint : Int) - f) * cfg.trimGain).tdiv 16).toNat := by
  cases mode <;> simp [doseOf, trimOf]

/-! ### The pacer -/

/-- The elapsed count reaches a new I at the recompute, or by the tick's own count after it (R120). -/
def Dosing.fires (d : Dosing) (interval : Nat) : Prop :=
  interval ≤ d.elapsed ∨ (d.countOwed = true ∧ interval ≤ incTo 65535 d.elapsed)

section Pacer

variable {d : Dosing} {mode : DosingMode}

/-- A pacer in a mode that paces counts where I is present, and is due where it has reached I (R119). -/
theorem Dosing.strokeDue_eq {i : Nat} (hm : d.mode.paces = true) (hi : d.interval = some i) :
    d.strokeDue = decide (i ≤ d.elapsed) := by
  cases hmode : d.mode <;> simp_all [Dosing.strokeDue, DosingMode.paces]

theorem Dosing.countPacer_eq {i : Nat} (hm : d.mode.paces = true) (hi : d.interval = some i) :
    d.countPacer = { d with elapsed := incTo 65535 d.elapsed } := by
  have hp : d.pacing = true := by cases hmode : d.mode <;> simp_all [Dosing.pacing, DosingMode.paces]
  unfold Dosing.countPacer; rw [if_pos hp]

/-- The count owed after the recompute is made, and may itself begin a stroke (R120, second order). -/
theorem Dosing.countAfterRecompute_owed {i : Nat} (hm : d.mode.paces = true) (hi : d.interval = some i)
    (ho : d.countOwed = true) (width : Nat) :
    d.countAfterRecompute width =
      if i ≤ incTo 65535 d.elapsed then d.beginStroke width
      else { d with elapsed := incTo 65535 d.elapsed, countOwed := false } := by
  have hdue : { d with elapsed := incTo 65535 d.elapsed, countOwed := false }.strokeDue =
      decide (i ≤ incTo 65535 d.elapsed) := Dosing.strokeDue_eq hm hi
  unfold Dosing.countAfterRecompute
  simp only [if_pos ho, Dosing.countPacer_eq hm hi, hdue, decide_eq_true_eq]
  rfl

/-- A pacer that reaches its new I begins a stroke, from which nothing is counted (R119, R120). -/
theorem Dosing.paceAt_fires {interval : Nat} (hm : mode.paces = true) (h : d.fires interval) (dose width : Nat) :
    d.paceAt mode dose interval width = (d.withPace mode dose interval).beginStroke width := by
  unfold Dosing.paceAt
  by_cases hi : interval ≤ d.elapsed
  · rw [if_pos hi]; rfl
  · obtain ⟨howed, hcount⟩ := h.resolve_left hi
    rw [if_neg hi, Dosing.countAfterRecompute_owed (d := d.withPace mode dose interval) hm rfl howed]
    exact if_pos hcount

/-- Below its new I the pacer goes on, with the tick's own count where that is owed (R120). -/
theorem Dosing.paceAt_goesOn {interval : Nat} (hm : mode.paces = true) (h : ¬ d.fires interval) (dose width : Nat) :
    d.paceAt mode dose interval width =
      { d.withPace mode dose interval with
        countOwed := false
        elapsed := if d.countOwed then incTo 65535 d.elapsed else d.elapsed } := by
  obtain ⟨hi, hcount⟩ := not_or.1 h
  unfold Dosing.paceAt
  rw [if_neg hi]
  by_cases ho : d.countOwed = true
  · rw [Dosing.countAfterRecompute_owed (d := d.withPace mode dose interval) hm rfl ho, if_pos ho]
    exact if_neg fun hc => hcount ⟨ho, hc⟩
  · have hnone : (d.withPace mode dose interval).countAfterRecompute width = d.withPace mode dose interval := if_neg ho
    rw [hnone, if_neg ho, ← Bool.eq_false_iff.2 ho]; rfl

end Pacer

/-- Settles O18: the mode and d by their equations, and then by whether d is 0 and whether the elapsed count reaches
I. -/
theorem secondTickDecidesDosing : Obligations.SecondTickDecidesDosing := by
  intro s hs _ chl ph f phv good q mode trim d i
  obtain ⟨n, hn, hwork⟩ := secondWork_decides s
  obtain ⟨source, analyser, age, count, hdose⟩ := hn.dose
  have hmode : n.decidedMode = mode := decidedMode_eq hn
  have hcfg : n.cfg = s.cfg := by unfold State.cfg; rw [hn.load]
  have hd : doseOf n.cfg n.decidedMode n.dose.readingF = d := by
    rw [hmode, hcfg, hdose, doseOf_eq]; rfl
  have hpaces : mode.paces = false → d = 0 := fun hp => by rw [← hd, hmode]; exact doseOf_of_not_paces hp _ _
  have hi : intervalOf n.cfg n.scan.channels.flow.value d = i := by rw [hcfg, hn.channels]; rfl
  have hleft : (finish s.cycle.state true (secondWork s)).dose =
      if d = 0 then n.dose.stopPacing mode else n.dose.paceAt mode d i s.cfg.strokeWidth := by
    rw [finish_eq, State.setLink_dose, hwork, decideDosing, State.setDose_dose, hd, hi, hcfg, hmode,
      Dosing.recompute_eq hpaces]
  refine completes_event hs rfl ?_
  rw [hleft]
  by_cases h0 : d = 0
  · rw [if_pos h0, if_pos h0, hdose]
    exact ⟨rfl, h0.symm, rfl, rfl, rfl, rfl, rfl, fun _ => ⟨rfl, rfl, rfl, rfl⟩, fun h => absurd h0 h⟩
  · have hm : mode.paces = true := by
      rw [← Bool.not_eq_false]; exact fun hp => h0 (hpaces hp)
    rw [if_neg h0, if_neg h0]
    by_cases hfires : n.dose.fires i
    · rw [Dosing.paceAt_fires hm hfires]
      rw [hdose] at hfires ⊢
      exact ⟨rfl, rfl, rfl, rfl, rfl, rfl, rfl, fun h => absurd h h0,
        fun _ => ⟨rfl, fun _ => ⟨rfl, rfl, rfl, rfl⟩, fun h => absurd hfires h⟩⟩
    · rw [Dosing.paceAt_goesOn hm hfires]
      rw [hdose] at hfires ⊢
      exact ⟨rfl, rfl, rfl, rfl, rfl, rfl, rfl, fun h => absurd h h0,
        fun _ => ⟨rfl, fun h => absurd h hfires, fun _ => ⟨rfl, rfl, rfl, rfl⟩⟩⟩

end Sys2Proof.Machine
end

section
/-! SUPPORT. The events of the metering pump and of its feedback (R119, R122 to R124), a reading gone stale (R114), and
the inputs that are read as levels alone (R155): each is an event that leaves the cycle state. -/

namespace Sys2Proof.Machine

/-- An effect that is due on the dosing unit alone ends in the take into transmission (R134). -/
theorem event_setDose {due : Bool} {effect : State → State} {s : State} {d : Dosing} (hs : s.supplyOk = true)
    (hdue : due = true) (he : effect s = s.setDose d) :
    event false (whenDue due effect) s = .next ((s.setDose d).setLink s.link.take) :=
  event_quiet_of_body (u := s.setDose d) hs ((if_pos hdue).trans he) rfl

/-- A miss by the count it finds: at 3 the latch is set where it is clear, and the pacer stops in FAULT (R124). -/
theorem Dosing.miss_eq {d : Dosing} (h : d.missCount ≤ 3) :
    d.miss =
      if d.missCount = 2 ∨ d.missCount = 3 then
        (if d.faultLatch then { d with windows := d.windows.drop 1, missCount := 3 }
         else
          { d with
            windows := d.windows.drop 1, missCount := 3, faultLatch := true, mode := .fault, dose := 0,
            interval := none, elapsed := 0, countOwed := false })
      else { d with windows := d.windows.drop 1, missCount := incTo 3 d.missCount } := by
  have htop : incTo 3 d.missCount = 3 ↔ d.missCount = 2 ∨ d.missCount = 3 := by rw [incTo_eq_top]; omega
  unfold Dosing.miss; simp only
  by_cases hthird : d.missCount = 2 ∨ d.missCount = 3
  · rw [htop.2 hthird, if_pos hthird]
    cases hl : d.faultLatch <;> simp [Dosing.stopPacing]
  · rw [if_neg hthird, if_neg (by simp [htop, hthird])]

/-- Settles O47: each is due, and reaches the dosing unit alone. -/
theorem pumpEvents : Obligations.PumpEvents := by
  intro i s hs
  refine ⟨fun hm hi hreached => ?_, fun hp => ?_, fun hd hn => ?_, fun hh hage => ?_⟩
  · have hpaces : s.dose.mode.paces = true := by rcases hm with hm | hm <;> rw [hm] <;> rfl
    exact event_setDose hs (by rw [Dosing.strokeDue_eq hpaces hi]; exact decide_eq_true hreached) rfl
  · exact event_setDose hs (decide_eq_true hp) rfl
  · rw [← Dosing.miss_eq hn]
    exact event_setDose hs hd rfl
  · exact event_setDose hs (by simp [readingDue, hh, hage]) rfl

/-- A feedback closes the oldest window where one is open (R124). -/
theorem Dosing.feedback_eq (d : Dosing) :
    d.feedback = if d.windows = [] then d else { d with windows := d.windows.drop 1, missCount := 0 } := by
  unfold Dosing.feedback
  cases hw : d.windows <;> rfl

/-- Any other change of an input, which is no edge with an effect of its own, leaves the level alone (R155). -/
theorem takeInput_level {i : DiscreteInput} {level : Bool} {s : State} (hi : otherInputChange i level = true)
    (h : level ≠ (s.inputs.get i).level) :
    takeInput i level s = s.setInputs (s.inputs.set i (.changeTo level)) := by
  rw [takeInput_changed h]
  cases level with
  | false => rfl
  | true =>
    cases i with
    | flowOk => rfl
    | manualWash | inhibitKey | tankLow | doseFb => cases hi

/-- Settles O33: the edge of DOSE_FB is a feedback, and every other change reaches its level. -/
theorem feedbackAndLevelChanges : Obligations.FeedbackAndLevelChanges := by
  intro i level s hs
  refine ⟨fun hl => ?_, fun hi hl => event_quiet_of_body hs (takeInput_level hi hl) rfl⟩
  have hbody : takeInput .doseFb true s =
      (s.setInputs { s.inputs with doseFb := .changeTo true }).setDose s.dose.feedback :=
    takeInput_changed (by simp [Inputs.get, hl])
  refine ⟨_, event_quiet_of_body hs hbody rfl, ?_⟩
  rw [Dosing.feedback_eq]; rfl

end Sys2Proof.Machine
end

section
/-! SUPPORT. The link law as what every part of an event keeps of the link and what the take at its close adds (R133,
R134, R137); and what the link's own operations keep of it. -/

namespace Sys2Proof.Machine

/-! ### The law -/

/-- What every part of an event keeps of the link: its ranges, nothing held while OFF (R133, R138), the mode that of the
tally (R137), and no attempt without a frame (R135). -/
structure Link.Sound (l : Link) : Prop where
  tally      : l.tally ≤ 255
  answers    : l.answers.length ≤ 4
  successAge : l.successAge ≤ 400
  offTimer   : l.offTimer ≤ 100
  attempt    : l.inTx = none → l.attempt = .idle
  off        : l.mode = .off → l.inTx = none ∧ l.nothingWaiting = true
  judged     : l.mode = .off ∨ l.mode = judgedMode l.tally

/-- What the link has between two events: besides, nothing waits while nothing is in transmission (R134). -/
structure Link.Lawful (l : Link) : Prop extends Link.Sound l where
  waiting : l.inTx = none → l.nothingWaiting = true

theorem linkLaw_iff (s : State) : linkLaw s = true ↔ s.link.Lawful := by
  simp only [linkLaw, Bool.and_eq_true, Bool.or_eq_true, decide_eq_true_eq, bne_iff_ne, ne_eq,
    Option.isNone_iff_eq_none]
  constructor
  · rintro ⟨⟨⟨⟨⟨⟨htally, hanswers⟩, hage⟩, htimer⟩, hfree⟩, hoff⟩, hmode⟩
    have hidle : s.link.inTx = none → s.link.nothingWaiting = true ∧ s.link.attempt = .idle := fun hn =>
      hfree.resolve_left (by simp [hn])
    have hnone : s.link.mode = .off → s.link.inTx = none := fun hm => hoff.resolve_left fun h => h hm
    exact { tally := htally, answers := hanswers, successAge := hage, offTimer := htimer,
            attempt := fun hn => (hidle hn).2, off := fun hm => ⟨hnone hm, (hidle (hnone hm)).1⟩, judged := hmode,
            waiting := fun hn => (hidle hn).1 }
  · intro h
    refine ⟨⟨⟨⟨⟨⟨h.tally, h.answers⟩, h.successAge⟩, h.offTimer⟩, ?_⟩, ?_⟩, h.judged⟩
    · cases hi : s.link.inTx with
      | some f => exact .inl rfl
      | none => exact .inr ⟨h.waiting hi, h.attempt hi⟩
    · by_cases hm : s.link.mode = .off
      · exact .inr (h.off hm).1
      · exact .inl hm

/-! ### The link's own operations -/

theorem judgedMode_ne_off (tally : Nat) : judgedMode tally ≠ .off := by
  unfold judgedMode; split <;> decide

theorem Link.Sound.offer {l : Link} (h : l.Sound) (f : TxFrame) : (l.offer f).Sound := by
  by_cases hm : l.mode = .off
  · rw [Link.offer_off hm]; exact h
  · obtain ⟨_, _, _, _, heq, hlength⟩ := l.offer_keeps f
    rw [heq]
    exact { h with answers := hlength h.answers, off := fun hoff => absurd hoff hm }

theorem Link.takeWaiting_attempt {l : Link} (h : l.attempt = .idle) : l.takeWaiting.attempt = .idle := by
  unfold Link.takeWaiting; split
  case h_5 => exact h
  all_goals rfl

/-- The take at the close of an event leaves nothing waiting while nothing is in transmission (R134). -/
theorem Link.Sound.take {l : Link} (h : l.Sound) : l.take.Lawful := by
  by_cases hm : l.mode = .off
  · rw [Link.take_off hm]
    exact { h with waiting := fun _ => (h.off hm).2 }
  cases hi : l.inTx with
  | some f =>
    rw [Link.take_busy hi]
    exact { h with waiting := fun hn => by rw [hi] at hn; cases hn }
  | none =>
    have hidle : l.take.attempt = .idle := by rw [Link.take_free hi hm]; exact Link.takeWaiting_attempt (h.attempt hi)
    obtain ⟨_, _, _, _, _, _, heq, hlength, hwaiting, -⟩ := l.take_keeps
    replace hwaiting := hwaiting hm
    rw [heq] at hidle hwaiting ⊢
    exact { h with answers := Nat.le_trans hlength h.answers, attempt := fun _ => hidle,
                   off := fun hoff => absurd hoff hm, waiting := hwaiting }

theorem Link.Sound.countFormatError {l : Link} (h : l.Sound) : l.countFormatError.Sound := { h with }

theorem Link.Sound.countSignalError {l : Link} (h : l.Sound) : l.countSignalError.Sound := { h with }

theorem Link.Sound.clearCounters {l : Link} (h : l.Sound) : l.clearCounters.Sound := { h with }

/-- A failure keeps the frame under a raised tally, or drops everything (R137, R138). -/
theorem Link.Sound.fail {l : Link} (h : l.Sound) : l.fail.Sound := by
  by_cases hroom : l.tally + 8 ≤ 255
  · rw [Link.fail_of_room hroom]
    exact { h with tally := hroom, attempt := fun _ => rfl, off := fun hm => absurd hm (judgedMode_ne_off _),
                   judged := .inr rfl }
  · have hgoes : l.failureGoesOff = true := decide_eq_true (Nat.not_le.1 hroom)
    unfold Link.fail; simp only [hgoes, if_true]
    exact { h with tally := Nat.le_refl _, answers := Nat.zero_le _, offTimer := Nat.zero_le _, attempt := fun _ => rfl,
                   off := fun _ => ⟨rfl, rfl⟩, judged := .inl rfl }

/-- A completion leaves the waiting frames to the take (R136). -/
theorem Link.Sound.complete {l : Link} (h : l.Sound) : l.complete.Sound :=
  { h with tally := Nat.le_trans (Nat.sub_le _ _) h.tally, successAge := Nat.zero_le _, attempt := fun _ => rfl,
           off := fun hm => absurd hm (judgedMode_ne_off _), judged := .inr rfl }

/-- The OFF period ends in ACTIVE, the mode of tally 0 (R139). -/
theorem Link.Sound.endOff {l : Link} (h : l.Sound) : l.endOff.Sound :=
  { h with tally := Nat.zero_le _, offTimer := Nat.zero_le _, off := nofun, judged := .inr rfl }

theorem Link.Sound.lapse {l : Link} (h : l.Sound) : ({ l with successAge := 400 } : Link).Sound :=
  { h with successAge := Nat.le_refl _ }

theorem Link.Sound.afterArrival {l : Link} (h : l.Sound) : l.afterArrival.Sound := by
  unfold Link.afterArrival; split
  · exact { h with attempt := fun _ => rfl }
  all_goals exact h

theorem Link.Sound.startAttempt {l : Link} (h : l.Sound) : l.startAttempt.Sound := by
  unfold Link.startAttempt; split
  next hi _ => exact { h with attempt := fun hn => by rw [hi] at hn; cases hn }
  · exact h

theorem Link.Sound.loseMedium {l : Link} (h : l.Sound) : l.loseMedium.Sound := by
  unfold Link.loseMedium; split
  next hi => exact { h with attempt := fun hn => by rw [hi] at hn; cases hn }
  · exact h

theorem Link.Lawful.countTick {l : Link} (h : l.Lawful) : l.countTick.Lawful := by
  refine { h with successAge := ?_, offTimer := ?_ }
  · have := h.successAge
    unfold Link.countTick; simp only; split <;> omega
  · have := h.offTimer
    unfold Link.countTick; simp only; split
    · exact incTo_le _ _
    · exact h.offTimer

theorem Link.lawful_atReset (k : ResetKind) (l : Link) : (l.atReset k).Lawful :=
  { tally := Nat.zero_le _, answers := Nat.zero_le _, successAge := Nat.le_refl _, offTimer := Nat.zero_le _,
    attempt := fun _ => rfl, off := nofun, judged := .inr rfl, waiting := fun _ => rfl }

end Sys2Proof.Machine
end

section
/-! SUPPORT. The cycle controller, the share arbiter, the scanner and the dosing unit reach the link by their offers
alone (R133): one lemma an operation. -/

namespace Sys2Proof.Machine

/-- The link of `t` is that of `s` after offers, one after another (R133). -/
def OffersOnly (s t : State) : Prop := ∃ frames : List TxFrame, t.link = frames.foldl Link.offer s.link

theorem OffersOnly.of_link {s t : State} (h : t.link = s.link) : OffersOnly s t := ⟨[], h⟩

theorem OffersOnly.of_offer {s t : State} {f : TxFrame} (h : t.link = s.link.offer f) : OffersOnly s t := ⟨[f], h⟩

theorem OffersOnly.refl (s : State) : OffersOnly s s := .of_link rfl

theorem OffersOnly.trans {s t u : State} (h : OffersOnly s t) (k : OffersOnly t u) : OffersOnly s u := by
  obtain ⟨first, ht⟩ := h
  obtain ⟨later, hu⟩ := k
  exact ⟨first ++ later, by rw [hu, ht, List.foldl_append]⟩

theorem OffersOnly.then_same {s t u : State} (h : OffersOnly s t) (hu : u.link = t.link) : OffersOnly s u :=
  h.trans (of_link hu)

theorem OffersOnly.after {s t u : State} (k : OffersOnly t u) (h : t.link = s.link) : OffersOnly s u :=
  (of_link h).trans k

theorem Link.Sound.foldl_offer {l : Link} (h : l.Sound) (frames : List TxFrame) :
    (frames.foldl Link.offer l).Sound := by
  induction frames generalizing l with
  | nil => exact h
  | cons f rest ih => exact ih (h.offer f)

/-- Offers keep the link sound, however many they are. -/
theorem OffersOnly.sound {s t : State} (k : OffersOnly s t) (h : s.link.Sound) : t.link.Sound := by
  obtain ⟨frames, ht⟩ := k
  rw [ht]; exact h.foldl_offer frames

/-! ### The arbiter -/

theorem offersOnly_offer (f : TxFrame) (s : State) : OffersOnly s (offer f s) := .of_offer rfl

theorem offersOnly_offerRelease (r : ReleaseReason) (s : State) : OffersOnly s (offerRelease r s) :=
  offersOnly_offer _ s

theorem offersOnly_offerAnswer (panel code : Nat) (o : AnswerOutcome) (data : List Byte) (mark : Bool) (s : State) :
    OffersOnly s (offerAnswer panel code o data mark s) := offersOnly_offer _ s

theorem offersOnly_withdraw (s : State) : OffersOnly s (withdraw s) :=
  (offersOnly_offerRelease .withdrawn s).then_same rfl

theorem offersOnly_takeHold (u : Nat) (s : State) : OffersOnly s (takeHold u s) := (offersOnly_offer _ _).after rfl

theorem offersOnly_releaseFinished (s : State) : OffersOnly s (releaseFinished s) :=
  (offersOnly_offerRelease .finished s).then_same rfl

theorem offersOnly_wasteReport (v : ValveId) (a b : ValveState) (s : State) : OffersOnly s (wasteReport v a b s) := by
  rcases wasteReport_cases v a b s with h | h | h <;> rw [h]
  · rcases wasteLeftClosed_cases s with e | e <;> rw [e]
    · exact .refl s
    · exact offersOnly_takeHold _ s
  · rcases wasteBecameClosed_cases s with e | e <;> rw [e]
    · exact offersOnly_releaseFinished s
    · exact .refl s
  · exact .refl s

theorem offersOnly_releaseAtLockout (s : State) : OffersOnly s (releaseAtLockout s) := by
  unfold releaseAtLockout; split
  · exact offersOnly_releaseFinished s
  · exact .refl s

theorem offersOnly_arbiterSurvey (s : State) : OffersOnly s (arbiterSurvey s) := by
  unfold arbiterSurvey; split
  · exact offersOnly_offerRelease _ s
  · exact offersOnly_takeHold _ s

theorem offersOnly_commandSet (set : ValveSet) (s : State) : OffersOnly s (commandSet set s) :=
  ((offersOnly_wasteReport _ _ _ (commandedTo set s)).trans (offersOnly_wasteReport _ _ _ _)).after rfl

/-! ### The cycle controller -/

theorem offersOnly_enterState (new : CycleState) (s : State) : OffersOnly s (enterState new s) :=
  .of_link (enterState_link new s)

theorem offersOnly_lockOut (s : State) : OffersOnly s (lockOut s) := by
  unfold lockOut; simp only
  refine (offersOnly_releaseAtLockout _).after ?_
  rw [State.setValves_link, enterState_link]
  split <;> rfl

theorem offersOnly_recoveringSettled (s : State) : OffersOnly s (recoveringSettled s) := by
  unfold recoveringSettled
  generalize (if s.cycle.due = .none then CycleState.inService else .waiting) = new
  simp only
  split
  · exact (offersOnly_enterState new s).trans (offersOnly_releaseFinished _)
  · exact offersOnly_enterState new s

theorem offersOnly_onSettled (s : State) : OffersOnly s (onSettled s) := by
  unfold onSettled; split
  · exact .of_offer (completeWash_link _ s)
  · exact offersOnly_recoveringSettled s
  · exact offersOnly_enterState _ s
  · exact .refl s

theorem offersOnly_enterCommanding (new : CycleState) (set : ValveSet) (s : State) :
    OffersOnly s (enterCommanding new set s) := by
  unfold enterCommanding; simp only
  refine ((offersOnly_enterState new s).trans (offersOnly_commandSet set _)).trans ?_
  split
  · exact offersOnly_lockOut _
  · split
    · exact offersOnly_onSettled _
    · exact .refl _

theorem offersOnly_cutShort (o : WashOutcome) (s : State) : OffersOnly s (cutShort o s) := by
  rw [cutShort_eq]; exact (offersOnly_enterCommanding _ _ (cutShortAs o s)).after rfl

theorem offersOnly_enterStep (step : CycleState) (s : State) : OffersOnly s (enterStep step s) := by
  unfold enterStep; simp only
  refine ((offersOnly_enterState step s).trans (offersOnly_commandSet (stepSet step) _)).trans ?_
  split
  · exact offersOnly_cutShort _ _
  · exact .refl _

theorem offersOnly_endBackwash (o : WashOutcome) (s : State) : OffersOnly s (endBackwash o s) := by
  rw [endBackwash_eq]; exact (offersOnly_enterStep _ (cutShortAs o s)).after rfl

theorem offersOnly_backwashOver (s : State) : OffersOnly s (backwashOver s) := by
  unfold backwashOver whenDue
  split
  · exact offersOnly_endBackwash _ s
  · split
    · exact offersOnly_endBackwash _ s
    · exact .refl s

theorem offersOnly_valveFault (s : State) : OffersOnly s (valveFault s) := by
  have hcontest : OffersOnly s (endContestAtFault s) := by
    unfold endContestAtFault; split
    · exact offersOnly_withdraw s
    · exact .refl s
  unfold valveFault
  cases s.cycle.state with
  | starting | lockedOut => exact .refl s
  | inService | waiting => exact offersOnly_enterCommanding _ _ s
  | contest => exact hcontest.trans (offersOnly_enterCommanding _ _ _)
  | drainDown | airScour | backwash | settle | rinse => exact offersOnly_cutShort _ s
  | recovering | returning | isolating | isolated => exact offersOnly_lockOut s

theorem offersOnly_valveConfirmed (v : ValveId) (s : State) : OffersOnly s (valveConfirmed v s) := by
  unfold valveConfirmed; simp only
  split
  · exact (offersOnly_onSettled _).after rfl
  · exact .of_link rfl

theorem offersOnly_channelEvent (v : ValveId) (x : Valve × Report) (s : State) : OffersOnly s (channelEvent v x s) := by
  unfold channelEvent; simp only
  refine .trans ((offersOnly_wasteReport v (s.valves.get v).state x.1.state (s.setValves (s.valves.set v x.1))).after
    rfl) ?_
  split
  · exact .refl _
  · exact offersOnly_valveConfirmed _ _
  · exact offersOnly_valveFault _

theorem offersOnly_takeSwitch (v : ValveId) (p : Position) (level : Bool) (s : State) :
    OffersOnly s (takeSwitch v p level s) := by
  unfold takeSwitch; simp only
  split
  · exact .of_link rfl
  · split
    · exact .of_link rfl
    · exact offersOnly_channelEvent _ _ s

theorem offersOnly_operatorWash (s : State) : OffersOnly s (operatorWash s) := by
  unfold operatorWash; split
  · exact (offersOnly_enterState .waiting _).after rfl
  · exact .of_link rfl
  · exact .of_link rfl
  · exact .refl s

/-! ### The contest -/

theorem offersOnly_tryContest (s : State) : OffersOnly s (tryContest s) := by
  unfold tryContest; split
  · refine .trans ?_ (offersOnly_enterState .contest _)
    exact (offersOnly_offer _ _).after rfl
  · exact .refl s

theorem offersOnly_loseContest (counted : Bool) (s : State) : OffersOnly s (loseContest counted s) := by
  unfold loseContest; simp only
  refine .trans ?_ (offersOnly_enterState _ _)
  split <;> exact (offersOnly_withdraw s).then_same rfl

theorem offersOnly_endContestUncounted (s : State) : OffersOnly s (endContestUncounted s) := by
  unfold endContestUncounted; split
  · exact offersOnly_loseContest _ s
  · exact .refl s

theorem offersOnly_windowExpires (s : State) : OffersOnly s (windowExpires s) := by
  have hwin : ∀ u, OffersOnly s (winContest u s) := fun u =>
    ((offersOnly_takeHold u s).then_same (u := clearOutcome _) rfl).trans (offersOnly_enterStep _ _)
  unfold windowExpires; split
  · split
    · exact hwin _
    · exact .refl s
  all_goals exact .refl s

theorem offersOnly_changeReport (e : Option PeerEntry) (s : State) : OffersOnly s (changeReport e s) := by
  have hoverlap : ∀ newcomer, OffersOnly s (takeOverlap newcomer s) := by
    intro newcomer
    rw [takeOverlap_eq]; split
    · exact (offersOnly_cutShort _ _).after rfl
    · exact .of_link rfl
  unfold changeReport
  split
  · split
    · exact .refl s
    · exact offersOnly_loseContest _ s
  · split
    · split
      · exact .refl s
      · split
        · exact .refl s
        · exact hoverlap _
    · exact offersOnly_tryContest s

theorem offersOnly_linkOffReport (s : State) : OffersOnly s (linkOffReport s) := by
  unfold linkOffReport
  split
  · exact offersOnly_cutShort _ s
  · split
    · refine .trans (.of_link ?_) (offersOnly_enterState _ _)
      split <;> rfl
    · exact .refl s

theorem offersOnly_abandonWash (s : State) : OffersOnly s (abandonWash s) := by
  unfold abandonWash; simp only
  split
  · exact offersOnly_cutShort _ s
  · refine .trans ?_ (offersOnly_enterState _ _)
    split
    · exact (offersOnly_withdraw s).then_same rfl
    · exact .of_link rfl

/-! ### The events of the plant, the second tick and the peer table -/

theorem offersOnly_whenDue {due : Bool} {effect : State → State} {s : State} (h : OffersOnly s (effect s)) :
    OffersOnly s (whenDue due effect s) := by
  unfold whenDue; split
  · exact h
  · exact .refl s

theorem offersOnly_settleLoad (acks : Bool) (block : List Byte) (s : State) :
    OffersOnly s (settleLoad acks block s) := by
  unfold settleLoad; split <;> exact .of_link rfl

theorem offersOnly_endStarting (s : State) : OffersOnly s (endStarting s) := by
  unfold endStarting; simp only
  split
  · refine .trans ?_ (offersOnly_enterCommanding _ _ _)
    exact (offersOnly_arbiterSurvey (s.setValves (s.valves.map fun _ c => c.survey))).after rfl
  · exact .refl s

theorem offersOnly_secondWork (s : State) : OffersOnly s (secondWork s) := by
  have hcontest : OffersOnly s (tryContest (cycleSecond (scannerSecond s))) :=
    (offersOnly_tryContest _).after (cycleSecond_link _)
  refine hcontest.trans ?_
  rcases dosingSecond_link (tryContest (cycleSecond (scannerSecond s))) with h | ⟨f, -, h⟩
  · exact .of_link h
  · exact .of_offer h

theorem offersOnly_takeConversion (ch : ChannelId) (count : BitVec 12) (s : State) :
    OffersOnly s (takeConversion ch count s) := by
  cases hd : (s.scan.channels.get ch).due with
  | false => rw [takeConversion_off_its_tick count hd]; exact .of_link rfl
  | true => rw [takeConversion_due hd]; exact .of_link rfl

theorem offersOnly_risingEdge (i : DiscreteInput) (s : State) : OffersOnly s (risingEdge i s) := by
  cases i with
  | manualWash =>
    simp only [risingEdge, pressManualWash]; split
    · exact .refl s
    · exact offersOnly_operatorWash s
  | inhibitKey =>
    simp only [risingEdge, keyAsserts]; split
    · exact .refl s
    · exact offersOnly_endContestUncounted s
  | tankLow =>
    simp only [risingEdge, tankRunsLow]; split
    · exact offersOnly_cutShort _ s
    · exact offersOnly_endContestUncounted s
  | flowOk | doseFb => exact .of_link rfl

theorem offersOnly_takeInput (i : DiscreteInput) (level : Bool) (s : State) : OffersOnly s (takeInput i level s) := by
  unfold takeInput; simp only
  split
  · exact .of_link rfl
  · split
    · exact (offersOnly_risingEdge i _).after rfl
    · exact .of_link rfl

theorem offersOnly_refreshHold (s : State) : OffersOnly s (refreshHold s) := by
  unfold refreshHold; split
  · split
    · exact (offersOnly_offer _ _).after rfl
    · exact .refl s
  all_goals exact .refl s

theorem offersOnly_changeEntry (p : Nat) (new : Option PeerEntry) (intoHold : Bool) (s : State) :
    OffersOnly s (changeEntry p new intoHold s) := by
  rcases changeEntry_cases p new intoHold s with h | h <;> rw [h]
  · exact .of_link rfl
  · exact (offersOnly_changeReport _ (withEntry p new s)).after rfl

theorem offersOnly_lapseStatus (p : Nat) (s : State) : OffersOnly s (lapseStatus p s) := by
  unfold lapseStatus; split
  · split
    · exact (offersOnly_changeEntry _ _ _ _).after rfl
    · exact .refl s
  · exact .refl s

theorem offersOnly_lapseIntent (p : Nat) (s : State) : OffersOnly s (lapseIntent p s) := by
  unfold lapseIntent; split
  · split
    · exact offersOnly_changeEntry _ _ _ s
    · exact .refl s
  · exact .refl s

theorem offersOnly_lapseHold (p : Nat) (s : State) : OffersOnly s (lapseHold p s) := by
  unfold lapseHold; split
  · split
    · exact (offersOnly_changeEntry _ _ _ _).after rfl
    · exact .refl s
  · exact .refl s

end Sys2Proof.Machine
end

section
/-! SUPPORT. Every command and every tick keeps the link law: what arrives (R130), the events of transmission (R134 to
R140), the resets, and the step. -/

namespace Sys2Proof.Machine

/-! ### The law across the parts of an event -/

/-- The close of an event makes a sound link lawful: its STATUS is one more offer, and the take comes last (R32, R134). -/
theorem linkLawful_finish {s : State} (h : s.link.Sound) (c : CycleState) (b : Bool) : (finish c b s).link.Lawful := by
  rw [finish_eq, State.setLink_link]; split
  · exact (h.offer _).take
  · exact h.take

theorem linkLawful_event {b : Bool} {body : State → State} {s t : State} (h : s.link.Lawful)
    (hb : (body s).link.Sound) (he : event b body s = .next t) : t.link.Lawful := by
  rcases event_cases he with ⟨-, rfl⟩ | ⟨-, rfl⟩
  · exact h
  · exact linkLawful_finish hb _ _

theorem linkLawful_event_of_offers {b : Bool} {body : State → State} {s t : State} (h : s.link.Lawful)
    (k : OffersOnly s (body s)) (he : event b body s = .next t) : t.link.Lawful :=
  linkLawful_event h (k.sound h.toSound) he

theorem linkLawful_secondAt {happens : Bool} {s t : State} (h : s.link.Lawful) (he : secondAt happens s = .next t) :
    t.link.Lawful := by
  rcases secondAt_cases happens s with hs | hs <;> rw [hs] at he
  · exact linkLawful_event_of_offers h (offersOnly_secondWork s) he
  · cases he; exact h

theorem linkSound_whenDue {due : Bool} {effect : State → State} {s : State} (h : s.link.Sound)
    (he : due = true → (effect s).link.Sound) : (whenDue due effect s).link.Sound := by
  unfold whenDue; split
  next hd => exact he hd
  · exact h

/-- Every reset leaves the link with nothing waiting and nothing in transmission (R127). -/
theorem linkLawful_resetStation (k : ResetKind) (s : State) : (resetStation k s).link.Lawful :=
  Link.lawful_atReset k s.link

/-! ### What arrives -/

/-- A CLAIM is a format error or an event of the sender's entry (R130, R131). -/
theorem receiveClaim_cases (p g : Nat) (data : List Byte) (s : State) :
    receiveClaim p g data s = formatError s ∨ ∃ new b, receiveClaim p g data s = changeEntry p new b s := by
  unfold receiveClaim
  split
  · exact .inl rfl
  · split
    · split
      · exact .inl rfl
      · exact .inr ⟨_, _, rfl⟩
    · split
      · exact .inl rfl
      · exact .inr ⟨_, _, rfl⟩
    · split
      · exact .inl rfl
      · exact .inr ⟨_, _, rfl⟩
    · exact .inl rfl

theorem linkSound_formatError {s : State} (h : s.link.Sound) : (formatError s).link.Sound := h.countFormatError

theorem linkSound_receiveClaim {s : State} (h : s.link.Sound) (p g : Nat) (data : List Byte) :
    (receiveClaim p g data s).link.Sound := by
  rcases receiveClaim_cases p g data s with hr | ⟨new, b, hr⟩ <;> rw [hr]
  · exact linkSound_formatError h
  · exact (offersOnly_changeEntry _ _ _ s).sound h

theorem linkSound_receiveReading {s : State} (h : s.link.Sound) (p g : Nat) (data : List Byte) :
    (receiveReading p g data s).link.Sound := by
  have hpeer : ∀ u, OffersOnly u (peerReading p g u) := by
    intro u; unfold peerReading; split
    · exact .refl u
    · exact offersOnly_changeEntry _ _ _ u
  unfold receiveReading
  split
  · exact linkSound_formatError h
  · split
    · exact linkSound_formatError h
    · exact (hpeer _).sound h

theorem linkSound_receiveStatus {s : State} (h : s.link.Sound) (p g : Nat) (data : List Byte) :
    (receiveStatus p g data s).link.Sound := by
  unfold receiveStatus
  split
  · exact linkSound_formatError h
  · split
    · exact linkSound_formatError h
    · exact (offersOnly_changeEntry _ _ _ s).sound h

/-- Of the requests, CLEAR_COUNTERS alone touches the link otherwise than by an offer (R150). -/
theorem linkSound_carryOut {s : State} (h : s.link.Sound) (rc : RequestCode) : (carryOut rc s).link.Sound := by
  cases rc with
  | washNow => exact (offersOnly_operatorWash s).sound h
  | abandonWash => exact (offersOnly_abandonWash s).sound h
  | inhibitSet =>
    simp only [carryOut, setInhibit]; split
    · exact h
    · exact (offersOnly_endContestUncounted (s.setReq { s.req with inhibitFlag := true })).sound h
  | isolate => exact (offersOnly_enterCommanding _ _ (clearDue s)).sound h
  | returnToService => exact (offersOnly_enterCommanding _ _ s).sound h
  | clearCounters => exact h.clearCounters
  | inhibitClear | doseReset | readCounters | readWashRecord | restart | clearResetCause => exact h

theorem linkSound_takeRequest {s : State} (h : s.link.Sound) (panel : Nat) (rc : RequestCode) (arg : Nat) :
    (takeRequest panel rc arg s).link.Sound := by
  unfold takeRequest; simp only
  split
  · exact (linkLawful_resetStation _ _).toSound
  · exact (offersOnly_offerAnswer _ _ _ _ _ _).sound (linkSound_carryOut h rc)

theorem linkSound_handleRequest {s : State} (h : s.link.Sound) (panel code arg : Nat) :
    (handleRequest panel code arg s).link.Sound := by
  have hanswer : ∀ o, (offerAnswer panel code o zeroData false s).link.Sound := fun _ =>
    (offersOnly_offerAnswer _ _ _ _ _ s).sound h
  unfold handleRequest
  split
  · exact h
  · split
    · exact h
    · split
      · exact hanswer _
      · split
        · exact linkSound_takeRequest h _ _ _
        all_goals exact hanswer _

theorem linkSound_judgeFrame {s : State} (h : s.link.Sound) (kind g p : Nat) (data : List Byte) :
    (judgeFrame kind g p data s).link.Sound := by
  unfold judgeFrame
  split
  · exact h
  split
  · exact h
  split
  · exact linkSound_receiveClaim h _ _ _
  split
  · split
    · exact linkSound_receiveReading h _ _ _
    · exact h
  split
  · exact linkSound_receiveStatus h _ _ _
  split
  · unfold receiveRequest
    split
    · exact linkSound_formatError h
    · exact linkSound_handleRequest h _ _ _
  · exact h

theorem linkSound_receive {s : State} (h : s.link.Sound) (f : RxFrame) : (receive f s).link.Sound := by
  have hheard : (heard s).link.Sound := h.afterArrival
  unfold receive; split
  · exact hheard
  · exact linkSound_judgeFrame hheard _ _ _ _

/-! ### Transmission -/

theorem linkSound_failAttempt {s : State} (h : s.link.Sound) : (failAttempt s).link.Sound := by
  unfold failAttempt; simp only
  split
  · split
    · exact (linkLawful_resetStation _ _).toSound
    · exact (offersOnly_linkOffReport (s.setLink s.link.fail)).sound h.fail
  · exact h.fail

theorem linkSound_signalError {s : State} (h : s.link.Sound) : (signalError s).link.Sound := by
  unfold signalError; split
  · exact h.countSignalError
  · exact linkSound_failAttempt h
  · exact linkSound_failAttempt h

theorem windowStarts_link (number : Option Nat) (s : State) : (windowStarts number s).link = s.link := by
  unfold windowStarts; split
  · split <;> rfl
  all_goals rfl

theorem linkSound_completeTx {s : State} (h : s.link.Sound) : (completeTx s).link.Sound := by
  unfold completeTx; split
  · exact h
  · unfold reportCompletion; split
    · rw [windowStarts_link]; exact h.complete
    · split
      · exact (linkLawful_resetStation _ _).toSound
      · exact h.complete
    all_goals exact h.complete

/-! ### The step -/

/-- Every command keeps the link law. -/
theorem linkLawful_exec {c : Instr} {s t : State} (h : s.link.Lawful) (he : exec c s = .next t) : t.link.Lawful := by
  have hsound : s.link.Sound := h.toSound
  cases c with
  | powerReset straps | supplyFallsBelowOperatingRange => cases he; exact linkLawful_resetStation _ _
  | lineReset straps =>
    simp only [exec, execLineReset] at he; cases he
    split
    · exact linkLawful_resetStation _ _
    · exact h
  | configurationLoadSettles a b r block => exact linkLawful_event_of_offers h (offersOnly_settleLoad _ _ s) he
  | startingEnd => exact linkLawful_event_of_offers h (offersOnly_endStarting s) he
  | secondTick => exact linkLawful_event_of_offers h (offersOnly_secondWork s) he
  | loadingHoldReached | breakthroughHoldReached | waitMinute | readingPeriod => exact linkLawful_secondAt h he
  | conversion ch count => exact linkLawful_event_of_offers h (offersOnly_takeConversion ch count s) he
  | clearHoldReached => exact linkLawful_event_of_offers h (offersOnly_whenDue (offersOnly_endBackwash _ s)) he
  | drainDownEnd =>
    exact linkLawful_event_of_offers h (offersOnly_whenDue (effect := endDrainDown) (offersOnly_enterStep _ s)) he
  | airScourEnd | settleEnd =>
    exact linkLawful_event_of_offers h (offersOnly_whenDue (offersOnly_enterStep _ s)) he
  | backwashEnd => exact linkLawful_event_of_offers h (offersOnly_backwashOver s) he
  | rinseEnd => exact linkLawful_event_of_offers h (offersOnly_whenDue (offersOnly_enterCommanding _ _ s)) he
  | limitSwitchChange v p level => exact linkLawful_event_of_offers h (offersOnly_takeSwitch v p level s) he
  | reversalPauseEnd v | travelTimeout v =>
    exact linkLawful_event_of_offers h (offersOnly_whenDue (offersOnly_channelEvent _ _ s)) he
  | manualWashEdge | inhibitKeyChange _ | tankLowAssert | doseFbEdge | debouncedInputChange _ _ =>
    exact linkLawful_event_of_offers h (offersOnly_takeInput _ _ s) he
  | claimIntentArrival _ _ _ | claimHoldArrival _ _ _ | claimReleaseArrival _ _ _ | statusArrival _ _ _
  | readingArrival _ _ _ | answerArrival _ | washNow _ _ _ _ | abandonWash _ _ _ _ | inhibitSet _ _ _ _
  | inhibitClear _ _ _ _ | isolate _ _ _ _ | returnToService _ _ _ _ | doseReset _ _ _ _ | readCounters _ _ _ _
  | clearCounters _ _ _ _ | readWashRecord _ _ _ _ | restart _ _ _ _ | clearResetCause _ _ _ _
  | unknownRequest _ _ _ _ _ => exact linkLawful_event h (linkSound_receive hsound _) he
  | rxSignalError => exact linkLawful_event h (linkSound_signalError hsound) he
  | statusLapse p => exact linkLawful_event_of_offers h (offersOnly_lapseStatus _ s) he
  | intentLapse p => exact linkLawful_event_of_offers h (offersOnly_lapseIntent _ s) he
  | holdLapse p => exact linkLawful_event_of_offers h (offersOnly_lapseHold _ s) he
  | contestWindowExpiry => exact linkLawful_event_of_offers h (offersOnly_windowExpires s) he
  | holdRefresh => exact linkLawful_event_of_offers h (offersOnly_refreshHold s) he
  | txAttemptStart =>
    exact linkLawful_event (body := fun s => s.setLink s.link.startAttempt) h hsound.startAttempt he
  | lossOfTheMedium => exact linkLawful_event (body := fun s => s.setLink s.link.loseMedium) h hsound.loseMedium he
  | txFailure =>
    exact linkLawful_event h (linkSound_whenDue hsound fun _ => linkSound_failAttempt hsound) he
  | txCompletion => exact linkLawful_event h (linkSound_completeTx hsound) he
  | offPeriodEnd => exact linkLawful_event h (linkSound_whenDue hsound fun _ => hsound.endOff) he
  | connectedLapse => exact linkLawful_event h (linkSound_whenDue hsound fun _ => hsound.lapse) he
  | readingStale | backoffEnd | stroke | pulseEnd | feedbackMiss =>
    exact linkLawful_event_of_offers h (offersOnly_whenDue (.of_link rfl)) he

/-- A tick counts the success age and the OFF timer in their ranges (R139, R140). -/
theorem linkLawful_tick {s : State} (h : s.link.Lawful) : (tick s).link.Lawful := by
  unfold tick; split
  · exact h.countTick
  · exact h

/-- Settles O55: the link law is inductive by itself, since every part of an event leaves the link sound and the event
closes with the take into transmission. -/
theorem everyStepKeepsTheLinkLaw : Obligations.EveryStepKeepsTheLinkLaw := by
  intro s t h hst
  rw [linkLaw_iff] at h ⊢
  unfold step at hst
  split at hst
  · cases hst; exact linkLawful_tick h
  next c rest _ => exact linkLawful_exec (s := s.setPending rest) h hst

end Sys2Proof.Machine
end

section
/-! SUPPORT. The events of the link as commands: what is counted at an arrival or a fault (R131, R132, R135), the start
of an attempt and the loss of the medium (R134, R135), a failure (R137, R138), a completion (R136, R93), the end of an
OFF period (R139) and the connected lapse (R140). -/

namespace Sys2Proof.Machine

/-! ### Format and signal errors -/

/-- A CLAIM of a wrong length, verb, flow or release reason (R131). -/
theorem receiveClaim_formatError {p g : Nat} {data : List Byte}
    (h : data.length ≠ 4 ∨ byteAt data 0 = 0 ∨ 3 < byteAt data 0
      ∨ (byteAt data 0 ≤ 2 ∧ byteAt data 2 = 0) ∨ (byteAt data 0 = 3 ∧ 2 < byteAt data 3)) (s : State) :
    receiveClaim p g data s = formatError s := by
  unfold receiveClaim
  split
  · rfl
  next hlength =>
    have hdata := h.resolve_left (by simpa using hlength)
    split
    next hverb => exact if_pos (by omega)
    next hverb => exact if_pos (by omega)
    next hverb => exact if_pos (by omega)
    · rfl

theorem CycleState.ofCode_eq_none {code : Nat} (h : code = 0 ∨ 13 < code) : CycleState.ofCode code = none := by
  unfold CycleState.ofCode; split
  case h_14 => rfl
  all_goals omega

/-- A STATUS of a wrong length or cycle state code (R131). -/
theorem receiveStatus_formatError {p g : Nat} {data : List Byte}
    (h : data.length ≠ 8 ∨ byteAt data 0 = 0 ∨ 13 < byteAt data 0) (s : State) :
    receiveStatus p g data s = formatError s := by
  unfold receiveStatus
  split
  · rfl
  next hlength =>
    rw [CycleState.ofCode_eq_none (h.resolve_left (by simpa using hlength))]

/-- A READING of a wrong length or analyser state (R131). -/
theorem receiveReading_formatError {p g : Nat} {data : List Byte} (h : data.length ≠ 5 ∨ 1 < byteAt data 4)
    (s : State) : receiveReading p g data s = formatError s := by
  unfold receiveReading
  split
  · rfl
  next hlength =>
    have hstate : AnalyserState.ofCode (byteAt data 4) = none := by
      have hcode := h.resolve_left (by simpa using hlength)
      unfold AnalyserState.ofCode; split
      case h_3 => rfl
      all_goals omega
    rw [hstate]

/-- A frame that is dropped ends in the take into transmission alone (R131, R134). -/
theorem event_dropped {f : RxFrame} {s : State} (hs : s.supplyOk = true) (hf : receive f s = formatError (heard s)) :
    event false (receive f) s = .next (s.setLink s.link.afterArrival.countFormatError.take) :=
  event_quiet_of_body (u := s.setLink s.link.afterArrival.countFormatError) hs hf rfl

/-- A fault seen while the own frame is being sent, or in the frame it lost the medium to, is the own frame's (R135). -/
theorem signalError_of_attempt {s : State} (h : s.link.attempt ≠ .idle) : signalError s = failAttempt s := by
  unfold signalError; split
  next hi => exact absurd hi h
  all_goals rfl

/-- Settles O37: each frame is judged by its kind, and a fault by whether the own frame is being sent. -/
theorem receiveErrorsAreCounted : Obligations.ReceiveErrorsAreCounted := by
  intro g p data s hs hp counted dropped
  refine ⟨fun hbad => ?_, fun hbad => ?_, fun hg hbad => ?_, fun hi => ?_, fun htx hi => ?_⟩
  · have hclaim := event_dropped hs ((receive_claim (g := g) hp data).trans (receiveClaim_formatError hbad _))
    exact ⟨hclaim, hclaim, hclaim⟩
  · exact event_dropped hs ((receive_status hp data).trans (receiveStatus_formatError hbad _))
  · have hreading : receive (plainFrame 1 g.toNat p.toNat data) s = receiveReading p.toNat g.toNat data (heard s) :=
      (receive_plainFrame (by decide) g p data s).trans (judgeFrame_reading (s := heard s) hp hg data)
    exact event_dropped hs (hreading.trans (receiveReading_formatError hbad _))
  · have hbody : signalError s = s.setLink s.link.countSignalError := by unfold signalError; rw [hi]
    exact event_quiet_of_body hs hbody rfl
  · have hbody : whenDue s.link.inTx.isSome failAttempt s = signalError s :=
      (if_pos htx).trans (signalError_of_attempt hi).symm
    show event false signalError s = event false (whenDue s.link.inTx.isSome failAttempt) s
    rw [event_eq hs, event_eq hs, hbody]

/-! ### Attempts, the OFF period and the connected test -/

/-- An event that leaves another link under the frame in transmission (R134). -/
theorem event_setLink_busy {body : State → State} {s : State} {l : Link} {f : TxFrame} (hs : s.supplyOk = true)
    (hbody : body s = s.setLink l) (hi : l.inTx = some f) : event false body s = .next (s.setLink l) := by
  rw [event_quiet_of_body hs hbody rfl, State.setLink_setLink, State.setLink_link, Link.take_busy hi]

theorem Link.startAttempt_of_idle {l : Link} {f : TxFrame} (hi : l.inTx = some f) (ha : l.attempt = .idle) :
    l.startAttempt = { l with attempt := .sending } := by simp [Link.startAttempt, hi, ha]

theorem Link.loseMedium_of_busy {l : Link} {f : TxFrame} (hi : l.inTx = some f) :
    l.loseMedium = { l with attempt := .lost } := by simp [Link.loseMedium, hi]

/-- Settles O44: each by what it does to the link. -/
theorem linkEventsOfNoOwner : Obligations.LinkEventsOfNoOwner := by
  intro f s hs
  refine ⟨fun hi hidle => ?_, fun hi => ?_, fun hm ht => ?_, fun ha => ?_⟩
  · exact event_setLink_busy (body := fun s => s.setLink s.link.startAttempt) hs
      (congrArg s.setLink (Link.startAttempt_of_idle hi hidle)) hi
  · exact event_setLink_busy (body := fun s => s.setLink s.link.loseMedium) hs
      (congrArg s.setLink (Link.loseMedium_of_busy hi)) hi
  · have hover : s.link.offOver = true := by simp [Link.offOver, hm, ht]
    exact event_quiet_of_body (u := s.setLink s.link.endOff) hs (if_pos hover) rfl
  · exact event_quiet_of_body (u := s.setLink { s.link with successAge := 400 }) hs (if_pos (decide_eq_true ha)) rfl

/-! ### A failure -/

/-- The link after a failure past 255: counted, and everything dropped (R138). -/
def Link.turnedOff (l : Link) : Link :=
  { l with
    txFailures := satInc l.txFailures, firstError := firstOf l.firstError .transmit, attempt := .idle, mode := .off,
    tally := 255, offTimer := 0, inTx := none, claim := none, reading := none, status := none, answers := [],
    linkOffs := satInc l.linkOffs }

theorem Link.fail_eq_turnedOff {l : Link} (h : 255 < l.tally + 8) : l.fail = l.turnedOff := by
  have hoff : l.failureGoesOff = true := decide_eq_true h
  unfold Link.fail; simp only [hoff, if_true]; rfl

/-- A failure with room in the tally keeps the frame in transmission (R137). -/
theorem failAttempt_of_room {s : State} (h : s.link.tally + 8 ≤ 255) : failAttempt s = s.setLink s.link.fail := by
  have hroom : s.link.failureGoesOff = false := decide_eq_false (by omega)
  unfold failAttempt; simp only [hroom]; rfl

/-- A failure past 255 with no restart pending is the link OFF report (R138). -/
theorem failAttempt_off {s : State} (h : 255 < s.link.tally + 8) (hr : s.req.pendingRestart = false) :
    failAttempt s = linkOffReport (s.setLink s.link.turnedOff) := by
  have hoff : s.link.failureGoesOff = true := decide_eq_true h
  unfold failAttempt; simp only [hoff, hr, Link.fail_eq_turnedOff h]; rfl

/-- Outside the wash steps and CONTEST the link OFF report does nothing (R138). -/
theorem linkOffReport_elsewhere {s : State} (hw : s.cycle.state.washStep = false) (hc : s.cycle.state ≠ .contest) :
    linkOffReport s = s := by
  unfold linkOffReport; simp [hw, hc]

/-- In CONTEST it ends the contest without a RELEASE (R11, R96). -/
theorem linkOffReport_contest {s : State} (hc : s.cycle.state = .contest) (hi : s.arb.claim.isIntent = true) :
    linkOffReport s =
      (s.setArb { s.arb with claim := .none, windowTimer := 0, backoff := 200 + 10 * s.load.station }).setCycle
        (cycleIn .waiting s.cycle) := by
  have hw : s.cycle.state.washStep = false := by rw [hc]; rfl
  unfold linkOffReport
  rw [hw, if_neg (by decide), if_pos hc, if_pos hi]
  exact enterState_quiet (fun _ => rfl) fun _ => rfl

/-- In a wash step it cuts the wash short: RETURNING, or the wash completed at once (R18, R21, R22). -/
theorem linkOffReport_washStep {s : State} (hw : s.cycle.state.washStep = true) (hb : noBothAsserted s = true) :
    linkOffReport s =
      if standsAt serviceSet s then completeWash .cutShortLink (inReturning (cutShortAs .cutShortLink s))
      else inReturning (cutShortAs .cutShortLink s) :=
  (if_pos hw).trans (cutShort_cases (CycleState.washStep_not_filtering hw) hb _)

/-- While OFF the RELEASE of a completed wash is lost (R133). -/
theorem completeWash_link_off {s : State} (h : s.link.mode = .off) (o : WashOutcome) :
    (completeWash o s).link = s.link := (completeWash_link o s).trans (Link.offer_off h _)

/-- Settles O45: by whether the tally has room, and else by the cycle state that the link OFF report finds. -/
theorem transmitFailureRaisesTheTallyOrGoesOff : Obligations.TransmitFailureRaisesTheTallyOrGoesOff := by
  intro f s hs hi counted off
  have hdue : whenDue s.link.inTx.isSome failAttempt s = failAttempt s := if_pos (by rw [hi]; rfl)
  refine ⟨fun hroom => ?_, fun hover hr => ?_⟩
  · have hbody := hdue.trans ((failAttempt_of_room hroom).trans (congrArg s.setLink (Link.fail_of_room hroom)))
    exact event_setLink_busy hs hbody hi
  have hbody : whenDue s.link.inTx.isSome failAttempt s = linkOffReport (s.setLink off) :=
    hdue.trans (failAttempt_off hover hr)
  refine ⟨fun hw hc => ?_, fun hc hint => ?_, fun hw hb hat => ?_, fun hw hat => ?_⟩
  · have hquiet := event_quiet_of_body hs (hbody.trans (linkOffReport_elsewhere (s := s.setLink off) hw hc)) rfl
    rwa [State.setLink_setLink, State.setLink_link, Link.take_off rfl] at hquiet
  · refine completes_change hs rfl (hbody.trans (linkOffReport_contest (s := s.setLink off) hc hint))
      (by decide : CycleState.waiting ≠ .starting) ?_ fun _ ht => ht
    rw [hc]; exact (by decide : CycleState.waiting ≠ .contest)
  · have hcut := hbody.trans (linkOffReport_washStep (s := s.setLink off) hw hb)
    rw [show standsAt serviceSet (s.setLink off) = false from hat, if_neg (by decide)] at hcut
    refine completes_returningEntered (m := cutShortAs .cutShortLink s) hs rfl hcut ?_
    rintro h; rw [h] at hw; cases hw
  · have hcut := hbody.trans (linkOffReport_washStep (s := s.setLink off) hw (noBothAsserted_of_standsAt hat))
    have hlink : (completeWash .cutShortLink (inReturning (cutShortAs .cutShortLink (s.setLink off)))).link = off :=
      completeWash_link_off rfl _
    rw [show standsAt serviceSet (s.setLink off) = true from hat, if_pos rfl, ← State.setLink_self (completeWash _ _),
      hlink] at hcut
    exact completes_washCompletedAtOnce (m := cutShortAs .cutShortLink (s.setLink off)) hs rfl hcut
      (CycleState.washStep_not_filtering hw)

/-! ### A completion -/

/-- The window starts at the completion of the INTENT last offered, while its phase is PENDING (R93). -/
theorem windowStarts_eq (number : Option Nat) (s : State) :
    windowStarts number s =
      s.setArb
        (if s.arb.claim = .intent (ownUrgency s) .pending ∧ number = some s.arb.intentNumber then
          { s.arb with claim := .intent (ownUrgency s) .windowed }
         else s.arb) := by
  unfold windowStarts ownUrgency
  split
  next u hc =>
    simp only [hc, true_and]
    split <;> rfl
  next u hc => simp [hc]
  next hc => simp [hc]
  next hc => simp [hc]

/-- Beside the link, a completion that is no marked ANSWER's reaches the window of its INTENT alone (R136). -/
theorem reportCompletion_eq {kind : TxKind} (hk : kind ≠ .answer true) (s : State) :
    reportCompletion kind s =
      s.setArb
        (if s.arb.claim = .intent (ownUrgency s) .pending ∧ kind = .claim (some s.arb.intentNumber) then
          { s.arb with claim := .intent (ownUrgency s) .windowed }
         else s.arb) := by
  cases kind with
  | claim number => simp only [reportCompletion, windowStarts_eq, TxKind.claim.injEq]
  | reading | status => simp [reportCompletion]
  | answer mark =>
    have hmark : mark = false := by cases mark <;> simp_all
    simp [reportCompletion, hmark]

/-- Settles O46: the completion leaves the cycle, so that the take alone follows. -/
theorem completionLowersTheTallyAndStartsTheWindow : Obligations.CompletionLowersTheTallyAndStartsTheWindow := by
  intro f s hs hi hk l
  have hbody : completeTx s = reportCompletion f.kind (s.setLink s.link.complete) := by
    unfold completeTx; rw [hi]
  refine ⟨_, event_quiet_of_body hs (hbody.trans (reportCompletion_eq hk _)) rfl, rfl, rfl⟩

end Sys2Proof.Machine
end

section
/-! SUPPORT. MANUAL_WASH as a WASH_NOW without an answer (R5, R156). -/

namespace Sys2Proof.Machine

/-- OPERATOR is raised in the filtering states alone (R5). -/
theorem operatorWash_elsewhere {s : State} (h : s.cycle.state.filtering = false) : operatorWash s = s := by
  unfold operatorWash
  split
  next hst => rw [hst] at h; cases h
  next hst => rw [hst] at h; cases h
  next hst => rw [hst] at h; cases h
  · rfl

/-- In RESTRICTED operation the edge does nothing more than change the level (R156). -/
theorem pressManualWash_restricted {s : State} (h : s.restricted = true) : pressManualWash s = s := if_pos h

theorem pressManualWash_unrestricted {s : State} (h : s.restricted = false) : pressManualWash s = operatorWash s :=
  if_neg (by simp [h])

/-- Settles O31: by RESTRICTED operation and the cycle state, as WASH_NOW does. -/
theorem manualWashRaisesOperator : Obligations.ManualWashRaisesOperator := by
  intro s hs hl m
  have hbody : takeInput .manualWash true s = pressManualWash m := takeInput_changed (by simp [Inputs.get, hl])
  have hfree : s.restricted = false → takeInput .manualWash true s = operatorWash m := fun hr =>
    hbody.trans (pressManualWash_unrestricted (s := m) hr)
  refine ⟨fun h => ?_, fun hr hst => ?_, fun hr hst => ?_⟩
  · have hnothing : pressManualWash m = m := by
      cases hr : s.restricted with
      | true => exact pressManualWash_restricted (s := m) hr
      | false =>
        have hf : s.cycle.state.filtering = false := h.resolve_left (by simp [hr])
        exact (pressManualWash_unrestricted (s := m) hr).trans (operatorWash_elsewhere (s := m) hf)
    exact event_quiet_of_body hs (hbody.trans hnothing) rfl
  · exact completes_change hs rfl ((hfree hr).trans (operatorWash_inService (s := m) hst)) nofun
      (by rw [hst]; exact nofun) fun t ht => ht
  · exact event_quiet_of_body hs ((hfree hr).trans (operatorWash_upgrade (s := m) hst)) rfl

end Sys2Proof.Machine
end

section
/-! SUPPORT. The steps of R144 that carry nothing out: from any request's frame to its drop or its ANSWER (R130, R144 to
R147). -/

namespace Sys2Proof.Machine

/-! ### A request's row as its frame -/

/-- Every request is the arrival of the REQUEST frame of its row (R144, R169). -/
theorem exec_requestRow {c : Instr} {r : RequestRow} (h : requestRow c = some r) (s : State) :
    ∃ (panel : BitVec 3) (target : BitVec 5) (high : BitVec 3) (code : Nat) (arg : Byte),
      r = ⟨panel.toNat, target.toNat, code, arg.toNat⟩ ∧ code < 32
      ∧ exec c s = event false (receive (requestFrame panel.toNat target.toNat high.toNat code arg)) s := by
  cases c with
  | washNow p t high a | abandonWash p t high a | inhibitSet p t high a | inhibitClear p t high a
  | isolate p t high a | returnToService p t high a | doseReset p t high a | readCounters p t high a
  | clearCounters p t high a | readWashRecord p t high a | restart p t high a | clearResetCause p t high a =>
    cases h; exact ⟨p, t, high, _, a, rfl, by decide, rfl⟩
  | unknownRequest p t high code a => cases h; exact ⟨p, t, high, code.toNat, a, rfl, code.isLt, rfl⟩
  | _ => cases h

/-- A REQUEST for another station goes no further (R130 step 6). -/
theorem receive_otherStation {panel : BitVec 3} {target : BitVec 5} {s : State} (ht : target.toNat ≠ s.load.station)
    (high code : Nat) (arg : Byte) : receive (requestFrame panel.toNat target.toNat high code arg) s = heard s :=
  (receive_plainFrame (by decide) panel target _ s).trans
    (judgeFrame_ignored (s := heard s) (.inr (.inr ⟨rfl, ht⟩)) _)

/-! ### The steps of R144 in their order -/

section Steps

variable {panel code arg : Nat} {s : State}

theorem handleRequest_starting (hst : s.cycle.state = .starting) : handleRequest panel code arg s = s := if_pos hst

/-- With four ANSWERs waiting the REQUEST is dropped (R146). -/
theorem handleRequest_full (hst : s.cycle.state ≠ .starting) (hn : 4 ≤ s.link.answers.length) :
    handleRequest panel code arg s = dropRequest s := (if_neg hst).trans (if_pos hn)

theorem RequestCode.ofCode_unknown (h : code = 0 ∨ 12 < code) : RequestCode.ofCode code = none := by
  unfold RequestCode.ofCode; split
  case h_13 => rfl
  all_goals omega

/-- A code that names no request is answered as such (R144 step 3). -/
theorem handleRequest_unknown (hst : s.cycle.state ≠ .starting) (hn : s.link.answers.length < 4)
    (hc : code = 0 ∨ 12 < code) :
    handleRequest panel code arg s = offerAnswer panel code .unknownRequest zeroData false s := by
  unfold handleRequest; rw [if_neg hst, if_neg (Nat.not_le.2 hn), RequestCode.ofCode_unknown hc]

/-- A request that is not taken is answered with its refusal (R144 steps 4 to 6). -/
theorem handleRequest_refused {rc : RequestCode} {o : AnswerOutcome} (hst : s.cycle.state ≠ .starting)
    (hn : s.link.answers.length < 4) (hj : judgeRequest rc arg s = o) (ho : o ≠ .taken) :
    handleRequest panel rc.code arg s = offerAnswer panel rc.code o zeroData false s := by
  unfold handleRequest
  rw [if_neg hst, if_neg (Nat.not_le.2 hn), RequestCode.ofCode_code]; simp only [hj]
  cases o with
  | taken => exact absurd rfl ho
  | refusedState | refusedArgument | unknownRequest | refusedRestricted => rfl

end Steps

/-! ### The judgement (R144 steps 4 to 6) -/

section Judgement

variable {rc : RequestCode} {arg : Nat} {s : State}

theorem judgeRequest_restricted (hr : s.restricted = true) : judgeRequest .washNow arg s = .refusedRestricted :=
  if_pos (by simp [hr])

theorem judgeRequest_refusedState (hr : ¬ (rc = .washNow ∧ s.restricted = true)) (ht : takenInState rc s = false) :
    judgeRequest rc arg s = .refusedState := by
  simp [judgeRequest, hr, ht]

theorem judgeRequest_refusedArgument (hw : rc ≠ .washNow) (ht : takenInState rc s = true)
    (ha : argumentTaken rc arg = false) : judgeRequest rc arg s = .refusedArgument := by
  simp [judgeRequest, hw, ht, ha]

theorem judgeRequest_taken (hw : rc ≠ .washNow) (ht : takenInState rc s = true) (ha : argumentTaken rc arg = true) :
    judgeRequest rc arg s = .taken := by
  simp [judgeRequest, hw, ht, ha]

end Judgement

/-- The five requests that some states do not take, each in a state that does not (R144 step 5, R147). -/
theorem exists_notTakenInState {code : Nat} {s : State}
    (h : (code = 1 ∧ s.cycle.state.filtering = false)
      ∨ (code = 2 ∧ s.cycle.state ≠ .waiting ∧ s.cycle.state ≠ .contest ∧ s.cycle.state.washStep = false)
      ∨ (code = 5 ∧ s.cycle.state ≠ .inService ∧ s.cycle.state ≠ .waiting) ∨ (code = 6 ∧ s.cycle.state ≠ .isolated)
      ∨ (code = 7 ∧ s.dose.mode ≠ .fault)) :
    ∃ rc : RequestCode, rc.code = code ∧ takenInState rc s = false := by
  rcases h with ⟨rfl, hf⟩ | ⟨rfl, hwait, hcontest, hwash⟩ | ⟨rfl, hserve, hwait⟩ | ⟨rfl, hisolated⟩ | ⟨rfl, hfault⟩
  · exact ⟨.washNow, rfl, hf⟩
  · exact ⟨.abandonWash, rfl, by simp [takenInState, hwait, hcontest, hwash]⟩
  · exact ⟨.isolate, rfl, by simp [takenInState, hserve, hwait]⟩
  · exact ⟨.returnToService, rfl, by simp [takenInState, hisolated]⟩
  · exact ⟨.doseReset, rfl, by simp [takenInState, hfault]⟩

/-- The two reads with an argument beyond their range (R144 step 6, R149, R151). -/
theorem exists_argumentNotTaken {code arg : Nat} (h : (code = 8 ∧ 2 < arg) ∨ (code = 10 ∧ 3 < arg)) (s : State) :
    ∃ rc : RequestCode, rc.code = code ∧ judgeRequest rc arg s = .refusedArgument := by
  rcases h with ⟨rfl, ha⟩ | ⟨rfl, ha⟩
  · exact ⟨.readCounters, rfl, judgeRequest_refusedArgument nofun rfl (by simpa [argumentTaken] using ha)⟩
  · exact ⟨.readWashRecord, rfl, judgeRequest_refusedArgument nofun rfl (by simpa [argumentTaken] using ha)⟩

/-! ### The requests not carried out -/

section Answered

variable {panel : BitVec 3} {target : BitVec 5} {high : BitVec 3} {n code : Nat} {arg : Byte} {s : State}

/-- A request that the handler only answers leaves the station as it was but for its ANSWER (R145). -/
theorem event_answered (hc : code < 32) (hr : reachesJudgement ⟨panel.toNat, target.toNat, n, arg.toNat⟩ s = true)
    {o : AnswerOutcome} {data : List Byte}
    (hh : handleRequest panel.toNat code arg.toNat (heard s) =
      offerAnswer panel.toNat code o data false (heard s)) :
    event false (receive (requestFrame panel.toNat target.toNat high.toNat code arg)) s =
      .next (s.setLink (s.link.afterArrival.offer (answerFrame panel.toNat code o data false s)).take) := by
  obtain ⟨hs, ht, -, -⟩ := reachesJudgement_iff.1 hr
  exact event_quiet_of_body (u := offerAnswer panel.toNat code o data false (heard s)) hs
    ((receive_requestFrame high hc arg ht).trans hh) rfl

/-- A request of unknown code is answered UNKNOWN_REQUEST (R144 step 3). -/
theorem event_unknown (hc : code < 32) (hr : reachesJudgement ⟨panel.toNat, target.toNat, n, arg.toNat⟩ s = true)
    (hu : code = 0 ∨ 12 < code) :
    event false (receive (requestFrame panel.toNat target.toNat high.toNat code arg)) s =
      .next (s.setLink
        (s.link.afterArrival.offer (answerFrame panel.toNat code .unknownRequest zeroData false s)).take) := by
  obtain ⟨-, -, hst, hn⟩ := reachesJudgement_iff.1 hr
  exact event_answered hc hr (handleRequest_unknown (s := heard s) hst (by simpa [heard] using hn) hu)

/-- A request that is refused is answered with its refusal (R144 steps 4 to 6). -/
theorem event_refused {rc : RequestCode} {o : AnswerOutcome} (hc : rc.code = code)
    (hr : reachesJudgement ⟨panel.toNat, target.toNat, n, arg.toNat⟩ s = true)
    (hj : judgeRequest rc arg.toNat (heard s) = o) (ho : o ≠ .taken) :
    event false (receive (requestFrame panel.toNat target.toNat high.toNat code arg)) s =
      .next (s.setLink (s.link.afterArrival.offer (answerFrame panel.toNat code o zeroData false s)).take) := by
  subst hc
  obtain ⟨-, -, hst, hn⟩ := reachesJudgement_iff.1 hr
  exact event_answered rc.code_lt hr
    (handleRequest_refused (s := heard s) hst (by simpa [heard] using hn) hj ho)

end Answered

/-- Settles O48: by the step of R144 at which the request ends. -/
theorem requestsNotCarriedOut : Obligations.RequestsNotCarriedOut := by
  intro c r s hs hrow st refusedState
  obtain ⟨panel, target, high, code, arg, rfl, hcode, he⟩ := exec_requestRow hrow s
  rw [he]
  refine ⟨fun h => ?_, fun ht hst hn => ?_, fun hr => ⟨fun hu => ?_, fun hc hres => ?_, fun hres hrefused => ?_,
    fun harg => ?_⟩⟩
  · refine event_quiet_of_body (u := heard s) hs ?_ rfl
    by_cases ht : target.toNat = s.load.station
    · exact (receive_requestFrame high hcode arg ht).trans
        (handleRequest_starting (s := heard s) (h.resolve_left (not_not_intro ht)))
    · exact receive_otherStation ht _ _ _
  · exact event_quiet_of_body (u := dropRequest (heard s)) hs
      ((receive_requestFrame high hcode arg ht).trans
        (handleRequest_full (s := heard s) hst (by simpa [heard] using hn))) rfl
  · exact event_unknown hcode hr hu
  · exact event_refused (rc := .washNow) hc.symm hr (judgeRequest_restricted (s := heard s) hres) nofun
  · obtain ⟨rc, hc, ht⟩ := exists_notTakenInState (s := heard s) hrefused
    refine event_refused hc hr (judgeRequest_refusedState (s := heard s) ?_ ht) nofun
    rintro ⟨rfl, hrestricted⟩
    exact hres ⟨hc.symm, hrestricted⟩
  · obtain ⟨rc, hc, hj⟩ := exists_argumentNotTaken harg (heard s)
    exact event_refused hc hr hj nofun

end Sys2Proof.Machine
end

section
/-! SUPPORT. The reads and the requests that the handler and the dosing unit carry out themselves (R125, R148 to R151,
R154). -/

namespace Sys2Proof.Machine

/-! ### What an arrival leaves of the link -/

/-- An arrival changes the attempt of the link alone (R135). -/
theorem Link.afterArrival_keeps (l : Link) : ∃ a, l.afterArrival = { l with attempt := a } := by
  unfold Link.afterArrival
  split
  · exact ⟨.idle, rfl⟩
  · exact ⟨l.attempt, rfl⟩
  · exact ⟨l.attempt, rfl⟩

/-- The counters of bank 0 can be cleared before or after the arrival is learnt (R135, R150). -/
theorem Link.clearCounters_afterArrival (l : Link) : l.clearCounters.afterArrival = l.afterArrival.clearCounters := by
  have hattempt : l.clearCounters.attempt = l.attempt := rfl
  unfold Link.afterArrival; rw [hattempt]; cases l.attempt <;> rfl

/-- The three banks are the same before and after an arrival is learnt (R149). -/
theorem bankData_heard (s : State) (arg : Nat) : bankData (heard s) arg = bankData s arg := by
  obtain ⟨a, ha⟩ := s.link.afterArrival_keeps
  unfold heard bankData; rw [ha]
  split <;> rfl

/-! ### The reads -/

section Request

variable {panel : BitVec 3} {target : BitVec 5} {high : BitVec 3} {n : Nat} {arg : Byte} {s : State}

/-- A read changes nothing and answers its data (R149, R151). -/
theorem takeRequest_read {panel arg : Nat} {rc : RequestCode} (hread : rc = .readCounters ∨ rc = .readWashRecord)
    (s : State) :
    takeRequest panel rc arg s = offerAnswer panel rc.code .taken (answerDataOf rc arg s) false s := by
  rcases hread with rfl | rfl <;> rfl

/-- A read with its argument in its range completes with its data, as they stand at the arrival (R149, R151). -/
theorem event_read {rc : RequestCode} (hread : rc = .readCounters ∨ rc = .readWashRecord)
    (hr : reachesJudgement ⟨panel.toNat, target.toNat, n, arg.toNat⟩ s = true)
    (ha : argumentTaken rc arg.toNat = true) :
    event false (receive (requestFrame panel.toNat target.toNat high.toNat rc.code arg)) s =
      .next (s.setLink
        (s.link.afterArrival.offer
          (answerFrame panel.toNat rc.code .taken (answerDataOf rc arg.toNat (heard s)) false s)).take) := by
  obtain ⟨-, -, hst, hn⟩ := reachesJudgement_iff.1 hr
  have hjudged : judgeRequest rc arg.toNat (heard s) = .taken := by
    rcases hread with rfl | rfl <;> exact judgeRequest_taken nofun rfl ha
  exact event_answered rc.code_lt hr
    ((handleRequest_taken (s := heard s) hst (by simpa [heard] using hn) hjudged).trans (takeRequest_read hread _))

end Request

/-- Settles O49: each read is taken, and what it answers is the same before and after the arrival is learnt. -/
theorem readsAnswerTheirData : Obligations.ReadsAnswerTheirData := by
  intro panel target high arg s hr
  refine ⟨fun ha => ?_, fun ha => ?_⟩
  · have hdata : answerDataOf .readCounters arg.toNat (heard s) =
        if arg.toNat = 0 then bank0 s else if arg.toNat = 1 then bank1 s else bank2 s := by
      refine (bankData_heard s arg.toNat).trans ?_
      unfold bankData
      split
      next h => rw [h]; rfl
      next h => rw [h]; rfl
      next h0 h1 => rw [if_neg h0, if_neg h1]
    have hevent := event_read (rc := .readCounters) (high := high) (.inl rfl) hr (by simpa [argumentTaken] using ha)
    rw [hdata] at hevent
    exact hevent
  · exact event_read (rc := .readWashRecord) (.inr rfl) hr (by simpa [argumentTaken] using ha)

/-! ### The requests of the handler and the dosing unit -/

/-- INHIBIT_SET where effective inhibit stands already, or outside CONTEST, sets its flag alone (R148). -/
theorem setInhibit_quiet {s : State} (h : s.inhibited = true ∨ s.cycle.state ≠ .contest) :
    setInhibit s = s.setReq { s.req with inhibitFlag := true } := by
  unfold setInhibit; simp only
  split
  · rfl
  next hi =>
    exact endContestUncounted_elsewhere (s := s.setReq { s.req with inhibitFlag := true }) (h.resolve_left hi)

/-- INHIBIT_SET in CONTEST, effective inhibit becoming set, ends the contest as a loss not counted (R94, R148). -/
theorem setInhibit_contest {s : State} (h : s.inhibited = false) (hst : s.cycle.state = .contest)
    (hi : s.arb.claim.isIntent = true) :
    setInhibit s =
      { s with
        req := { s.req with inhibitFlag := true }
        cycle := cycleIn .waiting s.cycle
        arb := { s.arb with claim := .none, windowTimer := 0, backoff := 200 + 10 * s.load.station }
        link := withdrawnLink s s.link } := by
  have hends : setInhibit s = endContestUncounted (s.setReq { s.req with inhibitFlag := true }) :=
    if_neg (by simp [h])
  rw [hends, endContestUncounted_contest (s := s.setReq { s.req with inhibitFlag := true }) hst hi,
    loseContest_uncounted]
  rfl

/-- A request taken, RESTART apart, that leaves the cycle state completes with its ANSWER offered to the link that it
leaves (R144 step 7, R145). -/
theorem event_taken {panel : BitVec 3} {target : BitVec 5} {high : BitVec 3} {n : Nat} {arg : Byte} {s m : State}
    {l : Link} (rc : RequestCode) (hr : reachesJudgement ⟨panel.toNat, target.toNat, n, arg.toNat⟩ s = true)
    (hrc : rc ≠ .restart) (hj : judgeRequest rc arg.toNat (heard s) = .taken)
    (hm : carryOut rc (heard s) = m.setLink l) (hload : m.load = s.load)
    (hdata : answerDataOf rc arg.toNat (m.setLink l) = zeroData) (hst : m.cycle.state = s.cycle.state) :
    event false (receive (requestFrame panel.toNat target.toNat high.toNat rc.code arg)) s =
      .next (m.setLink (l.offer (answerFrame panel.toNat rc.code .taken zeroData false s)).take) :=
  event_quiet_of_body (reachesJudgement_iff.1 hr).1 (receive_taken high rc hr hrc hj hm hload hdata) hst

/-- CLEAR_COUNTERS at an arrival (R150). -/
theorem clearAllCounters_heard (s : State) :
    clearAllCounters (heard s) =
      State.setLink
        { s with
          peers := { s.peers with statusLapses := 0, claimLapses := 0 }
          arb := { s.arb with contestsLost := 0, overlaps := 0 }
          req := { s.req with dropped := 0 }
          dose := { s.dose with duplicateReadings := 0 } }
        s.link.clearCounters.afterArrival := by
  rw [Link.clearCounters_afterArrival]
  simp only [clearAllCounters, heard, State.setLink, State.setPeers, State.setArb, State.setReq, State.setDose]

/-- Settles O50: each request is taken, and carried out by the equation of its operation. -/
theorem handlerRequestsAreCarriedOut : Obligations.HandlerRequestsAreCarriedOut := by
  intro panel target high arg s hr sent flagged
  refine ⟨fun h => ?_, fun hin hst hi => ?_, ?_, fun hmode => ?_, ?_, ?_⟩
  · exact event_taken .inhibitSet hr nofun (judgeRequest_taken nofun rfl rfl) (setInhibit_quiet (s := heard s) h)
      rfl rfl rfl
  · exact completes_request high .inhibitSet hr rfl nofun (judgeRequest_taken nofun rfl rfl)
      (setInhibit_contest (s := heard s) hin hst hi) rfl rfl nofun (by rw [hst]; exact nofun) fun t ht => ht
  · exact event_taken .inhibitClear hr nofun (judgeRequest_taken nofun rfl rfl) rfl rfl rfl rfl
  · have htaken : takenInState .doseReset (heard s) = true := decide_eq_true hmode
    exact event_taken .doseReset hr nofun (judgeRequest_taken nofun htaken rfl) rfl rfl rfl rfl
  · exact event_taken .clearResetCause hr nofun (judgeRequest_taken nofun rfl rfl) rfl rfl rfl rfl
  · exact ⟨_, event_taken .clearCounters hr nofun (judgeRequest_taken nofun rfl rfl) (clearAllCounters_heard s) rfl rfl
      rfl, rfl⟩

end Sys2Proof.Machine
end

section
/-! SUPPORT. RESTART from its request to its reset (R152, R153): the reset of cause REQUEST, and the three events at which
it is carried out. -/

namespace Sys2Proof.Machine

/-! ### The reset -/

/-- A LINE or REQUEST reset in the supply's range leaves the kept items and every other item at its reset value (R159,
R160). -/
theorem resetStation_eq_restartedAs {k : ResetKind} {s : State} (hs : s.supplyOk = true) (hk : k ≠ .power) :
    resetStation k s = restartedAs k.cause s.pins.straps s := by
  cases k with
  | power => exact absurd rfl hk
  | line | request => unfold resetStation; rw [hs]; rfl

/-- Of the link a restart keeps the counters of bank 0 and the first error code alone (R141), so an arrival before it is
of no effect. -/
theorem restartedAs_heard (cause : ResetCause) (straps : BitVec 8) (s : State) :
    restartedAs cause straps (heard s) = restartedAs cause straps s := by
  obtain ⟨a, ha⟩ := s.link.afterArrival_keeps
  unfold heard; rw [ha]; rfl

/-- An event that ends in a restart ends in STARTING with nothing offered and nothing to take (R32, R134, R153). -/
theorem event_restarted {body : State → State} {s m : State} (hs : s.supplyOk = true) (hm : m.supplyOk = true)
    (hbody : body s = restartStation m) :
    event false body s = .next (restartedAs .request m.pins.straps m) := by
  have hreset : restartStation m = restartedAs .request m.pins.straps m := resetStation_eq_restartedAs hm nofun
  rw [event_eq hs, hbody, hreset]; rfl

/-! ### The request -/

/-- A request that the steps of R144 take is handed on with its panel and its argument (R144 step 7). -/
theorem receive_takeRequest {panel : BitVec 3} {target : BitVec 5} {high : BitVec 3} {n : Nat} {arg : Byte}
    {s : State} (rc : RequestCode)
    (hr : reachesJudgement ⟨panel.toNat, target.toNat, n, arg.toNat⟩ s = true)
    (hj : judgeRequest rc arg.toNat (heard s) = .taken) :
    receive (requestFrame panel.toNat target.toNat high.toNat rc.code arg) s =
      takeRequest panel.toNat rc arg.toNat (heard s) := by
  obtain ⟨-, ht, hst, hn⟩ := reachesJudgement_iff.1 hr
  exact (receive_requestFrame high rc.code_lt arg ht).trans
    (handleRequest_taken (s := heard s) hst (by simpa [heard] using hn) hj)

/-- With the link OFF a RESTART is carried out at the arrival (R152). -/
theorem takeRequest_restart_off {panel arg : Nat} {s : State} (h : s.link.mode = .off) :
    takeRequest panel .restart arg s = restartStation s := if_pos (by simp [h])

/-- With the link not OFF the mark is set, and its marked ANSWER offered (R152). -/
theorem takeRequest_restart_marked {panel arg : Nat} {s : State} (h : s.link.mode ≠ .off) :
    takeRequest panel .restart arg s = offerAnswer panel 11 .taken zeroData true (markRestart s) :=
  if_neg (by simp [h])

theorem unknownCode_iff (code : BitVec 5) : unknownCode code = true ↔ code.toNat = 0 ∨ 12 < code.toNat := by
  simp [unknownCode]

/-- Settles O52: RESTART by whether the link is OFF, and the unknown code by the third step of R144. -/
theorem restartIsAnsweredOrCarriedOut : Obligations.RestartIsAnsweredOrCarriedOut := by
  intro panel target high code arg s hr
  have hs := (reachesJudgement_iff.1 hr).1
  have hbody := receive_takeRequest (high := high) .restart hr (judgeRequest_taken nofun rfl rfl)
  have hmode : (heard s).link.mode = s.link.mode := s.link.afterArrival_mode
  refine ⟨fun hon => ?_, fun hoff => ?_, fun hu => ?_⟩
  · exact event_quiet_of_body hs (hbody.trans (takeRequest_restart_marked (by rwa [hmode]))) rfl
  · refine (event_restarted (m := heard s) hs hs
      (hbody.trans (takeRequest_restart_off (hmode.trans hoff)))).trans ?_
    exact congrArg Host.Outcome.next (restartedAs_heard _ _ s)
  · exact event_unknown code.isLt hr ((unknownCode_iff code).1 hu)

/-! ### The completion of the marked ANSWER and the link OFF -/

/-- With a restart pending, the completion of its marked ANSWER carries it out (R136, R153). -/
theorem completeTx_restart {s : State} {f : TxFrame} (hi : s.link.inTx = some f) (hk : f.kind = .answer true)
    (hr : s.req.pendingRestart = true) : completeTx s = restartStation (s.setLink s.link.complete) := by
  have hmarked : reportCompletion (.answer true) (s.setLink s.link.complete) =
      restartStation (s.setLink s.link.complete) := if_pos (by simp [hr])
  unfold completeTx; rw [hi]; simp only [hk]; exact hmarked

/-- With a restart pending, a failure past 255 carries it out in place of the link OFF reports (R138, R153, log 13). -/
theorem failAttempt_restart {s : State} (h : 255 < s.link.tally + 8) (hr : s.req.pendingRestart = true) :
    failAttempt s = restartStation (s.setLink s.link.turnedOff) := by
  have hoff : s.link.failureGoesOff = true := decide_eq_true h
  unfold failAttempt; simp only [hoff, hr, if_true, Link.fail_eq_turnedOff h]

/-- Settles O8: each reset by its kind, and each of the two events by what it restarts. -/
theorem restartIsCarriedOut : Obligations.RestartIsCarriedOut := by
  intro straps s f hs hr hi
  refine ⟨⟨_, rfl, rfl, rfl⟩, ⟨_, congrArg Host.Outcome.next (if_pos hs), rfl, rfl⟩, fun hk => ?_, fun hover => ?_⟩
  · exact event_restarted (m := s.setLink s.link.complete) hs hs (completeTx_restart hi hk hr)
  · have hdue : whenDue s.link.inTx.isSome failAttempt s = failAttempt s := if_pos (by rw [hi]; rfl)
    exact event_restarted (m := s.setLink s.link.turnedOff) hs hs (hdue.trans (failAttempt_restart hover hr))

end Sys2Proof.Machine
end

section
/-! SUPPORT. The configuration load (R162 to R167): the clamps of the fields and across them, and the load that settles
on a good block or fails. -/

namespace Sys2Proof.Machine

/-! ### The clamps -/

/-- The clamp to a range takes a stored value into it (R164). -/
theorem takenInto_clampTo {lo hi : Nat} (h : lo ≤ hi) (stored : Nat) :
    takenInto lo hi stored (clampTo lo hi stored) := by
  unfold takenInto clampTo; omega

/-- Max run is clamped but for 0 (R164). -/
theorem takenInto_clampMaxRun (stored : Nat) : (stored = 0 → clampMaxRun stored = 0)
    ∧ (stored ≠ 0 → takenInto 24 336 stored (clampMaxRun stored)) := by
  refine ⟨fun h => if_pos h, fun h => ?_⟩
  rw [clampMaxRun, if_neg h]; exact takenInto_clampTo (by decide) stored

/-- A clamp from below moves the values under its bound alone (R165). -/
theorem max_eq_raised (value bound : Nat) : max value bound = if value < bound then bound else value := by
  split <;> omega

/-- A clamp from above moves the values over its bound alone (R165). -/
theorem min_eq_lowered (value bound : Nat) : min value bound = if bound < value then bound else value := by
  split <;> omega

/-- The six cross-field clamps, each as the move it makes (R165). -/
theorem clampAcross_eq (f : WorkingConfig) : clampAcross f =
    { f with
      dlim := if f.dlim < f.d0Default + 100 then f.d0Default + 100 else f.dlim
      backwashMax := if f.backwashMax < f.backwashMin then f.backwashMin else f.backwashMax
      phHigh := if f.phHigh < f.phLow + 20 then f.phLow + 20 else f.phHigh
      washFlow := if f.drainCapacity < f.washFlow then f.drainCapacity else f.washFlow
      claimLapse := if f.claimLapse < f.travelTimeout + 10 then f.travelTimeout + 10 else f.claimLapse
      minStrokeInterval :=
        if f.minStrokeInterval < 2 * f.strokeWidth then 2 * f.strokeWidth else f.minStrokeInterval } := by
  simp only [clampAcross, max_eq_raised, min_eq_lowered]

theorem movedOne_le (a b : Nat) : movedOne a b ≤ 1 := by unfold movedOne; split <;> omega

@[simp] theorem movedOne_self (a : Nat) : movedOne a a = 0 := if_pos rfl

/-- One more field counts one move at most. -/
theorem add_movedOne_le {moves fields : Nat} (h : moves ≤ fields) (a b : Nat) : moves + movedOne a b ≤ fields + 1 :=
  Nat.add_le_add h (movedOne_le a b)

/-- A move of each of the 38 fields at most is counted (R164). -/
theorem movedFields_le (a b : WorkingConfig) : movedFields a b ≤ 38 := by
  unfold movedFields
  iterate 37 refine add_movedOne_le ?_ _ _
  exact movedOne_le _ _

/-- The cross-field clamps move six fields at most (R165). -/
theorem movedFields_clampAcross_le (f : WorkingConfig) : movedFields f (clampAcross f) ≤ 6 := by
  have hmoved : movedFields f (clampAcross f) =
      movedOne f.dlim (clampAcross f).dlim + movedOne f.washFlow (clampAcross f).washFlow
        + movedOne f.claimLapse (clampAcross f).claimLapse + movedOne f.backwashMax (clampAcross f).backwashMax
        + movedOne f.phHigh (clampAcross f).phHigh
        + movedOne f.minStrokeInterval (clampAcross f).minStrokeInterval := by
    simp [movedFields, clampAcross]
  rw [hmoved]
  iterate 5 refine add_movedOne_le ?_ _ _
  exact movedOne_le _ _

/-- The bounds across the fields that the six clamps leave (R165). -/
theorem clampAcross_bounds (f : WorkingConfig) :
    (clampAcross f).d0Default + 100 ≤ (clampAcross f).dlim
      ∧ (clampAcross f).backwashMin ≤ (clampAcross f).backwashMax
      ∧ (clampAcross f).phLow + 20 ≤ (clampAcross f).phHigh
      ∧ (clampAcross f).washFlow ≤ (clampAcross f).drainCapacity
      ∧ (clampAcross f).travelTimeout + 10 ≤ (clampAcross f).claimLapse
      ∧ 2 * (clampAcross f).strokeWidth ≤ (clampAcross f).minStrokeInterval :=
  ⟨Nat.le_max_right _ _, Nat.le_max_right _ _, Nat.le_max_right _ _, Nat.min_le_right _ _, Nat.le_max_right _ _,
    Nat.le_max_right _ _⟩

/-- The wash flow stays positive across the clamps: both fields of its clamp are (R164, R165). -/
theorem one_le_washFlow (c : WorkingConfig) : 1 ≤ (clampAcross (clampFields c)).washFlow :=
  Nat.le_min.2 ⟨(clampTo_bounds (by decide) _).1, (clampTo_bounds (by decide) _).1⟩

/-- The upper pH bound is moved past its own range by the gap to the lower one alone (R164, R165). -/
theorem phHigh_le (c : WorkingConfig) : (clampAcross (clampFields c)).phHigh ≤ 920 := by
  have hlow : clampTo 600 900 c.phLow ≤ 900 := (clampTo_bounds (by decide) _).2
  have hhigh : clampTo 600 900 c.phHigh ≤ 900 := (clampTo_bounds (by decide) _).2
  exact Nat.max_le.2 ⟨by simp only [clampFields]; omega, by simp only [clampFields]; omega⟩

/-- Settles O11: each field by the clamp to its range, the six clamps across the fields by their moves and bounds. -/
theorem clampedConfigurationKeepsItsBounds : Obligations.ClampedConfigurationKeepsItsBounds := by
  rintro c f w rfl rfl
  obtain ⟨hdlim, hbackwash, hph, hflow, hlapse, hstroke⟩ := clampAcross_bounds (clampFields c)
  refine ⟨?_, takenInto_clampMaxRun c.maxRun, ?_, ?_, clampAcross_eq _, hdlim, hbackwash, hph, hflow, hlapse, hstroke,
    one_le_washFlow c, phHigh_le c,
    Nat.add_le_add (movedFields_le _ _) (movedFields_clampAcross_le _)⟩
  all_goals simp [clampFields, takenInto_clampTo]

/-! ### The load settles -/

/-- The load settles where it is under way (R162 to R167). -/
theorem settleLoad_eq {s : State} (h : s.load.outcome = none) (acks : Bool) (block : List Byte) :
    settleLoad acks block s =
      { s with
        load :=
          { s.load with
            outcome := some (judgeBlock acks block)
            clamped := (settledConfig (judgeBlock acks block) block).2
            config := (settledConfig (judgeBlock acks block) block).1 }
        scan := beginScanning s.serial (settledConfig (judgeBlock acks block) block).1 s.scan
        serial := s.serial + 1 } := by
  unfold settleLoad; rw [h]; rfl

/-- The start of scanning leaves each channel its value and its condition (R33, R35). -/
theorem beginScanning_channel (serial : Nat) (cfg : WorkingConfig) (x : Scanner) (c : ChannelId) :
    ((beginScanning serial cfg x).channels.get c).value = (x.channels.get c).value
      ∧ ((beginScanning serial cfg x).channels.get c).condition = (x.channels.get c).condition := by
  cases c <;> exact ⟨rfl, rfl⟩

theorem judgeBlock_good {block : List Byte} (hv : storedVersion block = 1)
    (hc : storedChecksum block = fieldSum block) : judgeBlock true block = .good := by simp [judgeBlock, hv, hc]

/-- The checks of a block that fails, in their order (R162, R163). -/
theorem judgeBlock_failed {acks : Bool} {block : List Byte}
    (h : acks = false ∨ storedVersion block ≠ 1 ∨ storedChecksum block ≠ fieldSum block) :
    judgeBlock acks block =
      if acks = false then .absent else if storedVersion block ≠ 1 then .version else .checksum := by
  cases acks with
  | false => rfl
  | true =>
    by_cases hv : storedVersion block = 1
    · have hc := (h.resolve_left nofun).resolve_left (fun hn => hn hv)
      simp [judgeBlock, hv, hc]
    · simp [judgeBlock, hv]

/-- A failed load is settled on the built-in defaults (R167). -/
theorem settledConfig_failed {o : LoadOutcome} (h : o ≠ .good) (block : List Byte) :
    settledConfig o block = (builtInDefaults, 0) := by
  cases o with
  | good => exact absurd rfl h
  | absent | checksum | version => rfl

theorem restricted_iff (s : State) : s.restricted = true ↔ ∃ o, s.load.outcome = some o ∧ o ≠ .good := by
  unfold State.restricted
  cases h : s.load.outcome with
  | none => simp
  | some o => cases o <;> simp

/-- RESTRICTED operation lights the FAULT lamp in the supply's range (R68, R167). -/
theorem faultLamp_of_restricted {s : State} (hs : s.supplyOk = true) (hr : s.restricted = true) :
    s.faultLamp = true := by simp [State.faultLamp, hs, hr]

/-- The settling of the load ends in the take into transmission alone (R134). -/
theorem exec_settle {ackWrite ackAddress ackRead : Bool} {block : List Byte} {s u : State} (hs : s.supplyOk = true)
    (hu : settleLoad (ackWrite && ackAddress && ackRead) block s = u) (hc : u.cycle = s.cycle) :
    exec (.configurationLoadSettles ackWrite ackAddress ackRead block) s = .next (u.setLink u.link.take) :=
  event_quiet_of_body hs hu (congrArg Cycle.state hc)

/-- Settles O9: the checks pass, so the working configuration is the stored one with its clamps. -/
theorem goodBlockSettlesTheLoad : Obligations.GoodBlockSettlesTheLoad := by
  intro block s hs ho hv hc
  have hu := settleLoad_eq ho true block
  rw [judgeBlock_good hv hc] at hu
  exact ⟨_, exec_settle hs hu rfl, rfl, rfl, rfl, rfl, rfl, rfl, rfl, fun c => beginScanning_channel _ _ _ c⟩

/-- Settles O10: the outcome by the order of the checks; every outcome but good is RESTRICTED operation. -/
theorem failedLoadRunsOnTheDefaults : Obligations.FailedLoadRunsOnTheDefaults := by
  intro ackWrite ackAddress ackRead block s hs ho hfail
  have hu := settleLoad_eq ho (ackWrite && ackAddress && ackRead) block
  rw [judgeBlock_failed hfail] at hu
  generalize hout : (if (ackWrite && ackAddress && ackRead) = false then LoadOutcome.absent
    else if storedVersion block ≠ 1 then .version else .checksum) = outcome at hu ⊢
  have hbad : outcome ≠ .good := by
    rw [← hout]; split
    · nofun
    · split <;> nofun
  rw [settledConfig_failed hbad] at hu
  have hrestricted : ∀ t : State, t.load.outcome = some outcome → t.restricted = true :=
    fun t ht => (restricted_iff t).2 ⟨outcome, ht, hbad⟩
  exact ⟨_, exec_settle hs hu rfl, rfl, hrestricted _ rfl, faultLamp_of_restricted hs (hrestricted _ rfl), rfl, rfl⟩

end Sys2Proof.Machine
end

section
/-! SUPPORT. The resets of kind POWER and LINE (R159, R160), and the POWER reset that is held below the supply's
range. -/

namespace Sys2Proof.Machine

/-- A POWER reset leaves every item at its reset value but the outside's levels, and reads the straps (R159, R160). -/
theorem resetStation_power (s : State) :
    resetStation .power s = { poweredUp s.pins.straps s with supplyOk := s.supplyOk } := rfl

/-- Settles O6: a POWER reset keeps nothing of a block, a LINE reset what 09 section 10.7 names. -/
theorem resetsGiveEveryBlockItsValues : Obligations.ResetsGiveEveryBlockItsValues := by
  intro straps s
  refine ⟨congrArg Host.Outcome.next (resetStation_power ((setStraps straps s).setSupplyOk true)), fun hs => ?_⟩
  have hline : resetStation .line (setStraps straps s) = restartedAs .line straps s :=
    resetStation_eq_restartedAs (s := setStraps straps s) hs nofun
  have hexec : exec (.lineReset straps) s = .next (resetStation .line (setStraps straps s)) :=
    congrArg Host.Outcome.next (if_pos hs)
  rw [hexec, hline]

/-- A reset leaves every drive off: no channel travels (R53, R56). -/
theorem drives_off_at_reset (x : Valves) (v : ValveId) :
    (x.atReset.get v).openDrive = false ∧ (x.atReset.get v).closeDrive = false := by
  unfold Valves.atReset; rw [Valves.get_map]; exact ⟨rfl, rfl⟩

/-- Settles O7: the POWER reset that is held leaves no channel travelling, no pulse and nothing in transmission. -/
theorem supplyFallTurnsEveryOutputOff : Obligations.SupplyFallTurnsEveryOutputOff := by
  intro s
  exact ⟨_, rfl, resetStation_power (s.setSupplyOk false), rfl, rfl, rfl, rfl, drives_off_at_reset s.valves⟩

end Sys2Proof.Machine
end

section
/-! SUPPORT. One tick as the step on an empty queue (R159): what it queues, and what each block counts at it. -/

namespace Sys2Proof.Machine

/-! ### The step on an empty queue -/

theorem step_empty {s : State} (h : s.pending = []) : step s = .next (tick s) := by unfold step; rw [h]

/-- A tick queues, in a free order, what falls due at it (log 5). -/
theorem tick_of_ticking {s : State} (h : ticking s = true) :
    tick s = { countAll s with serial := s.serial + 1, pending := arrange s.serial (dueAll s (countAll s)) } :=
  if_pos h

theorem tick_idle {s : State} (h : ticking s = false) : tick s = s := by unfold tick; rw [h]; rfl

/-- What falls due does not read the queue or the index of the next free value. -/
theorem fallsDue_queued (s t : State) (n : Nat) (q : List Instr) (c : Instr) :
    fallsDue s { t with serial := n, pending := q } c ↔ fallsDue s t c := by
  cases c <;> simp only [fallsDue, stepTimeReached, State.settled]

/-- Settles O2: the free order is a permutation of what is due, and what is due falls due by its row. -/
theorem emptyQueueStepIsOneTick : Obligations.EmptyQueueStepIsOneTick := by
  intro s hq
  refine ⟨fun h => (step_empty hq).trans (congrArg _ (tick_idle h)), fun h => ⟨tick s, step_empty hq, ?_⟩⟩
  have hperm := arrange_perm s.serial (dueAll s (countAll s))
  rw [tick_of_ticking h]; dsimp only
  refine ⟨hperm, rfl, fun c => ?_⟩
  rw [fallsDue_queued, ← mem_dueAll]
  exact hperm.mem_iff

/-! ### What each block counts -/

/-- A sample as the run count it leaves (R54, R155). -/
theorem DebouncedLine.sample_eq (l : DebouncedLine) :
    l.sample = { l with run := if l.raw = l.level then 0 else incTo 4 l.run } := by
  unfold DebouncedLine.sample; split <;> rfl

theorem Inputs.get_sample (x : Inputs) (i : DiscreteInput) : x.sample.get i = (x.get i).sample := by
  cases i <;> rfl

/-- A reversal pause keeps both drives off (R56, R58). -/
theorem Valve.driven_of_pause {c : Valve} (h : 1 < c.pause) : c.driven = false := by
  have hp : c.pause ≠ 0 := by omega
  simp [Valve.driven, Valve.openDrive, Valve.closeDrive, hp]

/-- A channel at a tick: the travel timer with a drive on, else the pause while travelling, and both switches (R54, R56,
R58). -/
theorem Valve.tick_eq (c : Valve) : c.tick =
    { c with
      travel := if c.driven then incTo 12000 c.travel else c.travel
      pause := if c.state.travelling = true ∧ 1 < c.pause then c.pause - 1 else c.pause
      openSwitch := c.openSwitch.sample
      closedSwitch := c.closedSwitch.sample } := by
  unfold Valve.tick Valve.countTick
  by_cases hp : c.state.travelling = true ∧ 1 < c.pause
  · simp [hp, Valve.driven_of_pause hp.2]
  · by_cases hd : c.driven = true <;> simp [hd, hp]

/-- The cycle at a tick: in a wash step whose set has settled the step timer, and in BACKWASH the backwash seconds and
the running clear-hold timer with it (R2, R15, R16). -/
theorem Cycle.countTick_eq (c : Cycle) : c.countTick =
    { c with
      stepTimer := if c.state.washStep && c.confirmed.all then incTo 120000 c.stepTimer else c.stepTimer
      backwashSeconds :=
        if c.state = .backwash ∧ c.confirmed.all then incTo 120000 c.stepTimer / 100 else c.backwashSeconds
      clearHold :=
        if c.state = .backwash ∧ c.confirmed.all ∧ c.clearRunning then incTo 2000 c.clearHold else c.clearHold } := by
  unfold Cycle.countTick
  by_cases hc : c.confirmed.all = true
  · by_cases hb : c.state = .backwash
    · simp [hb, hc, CycleState.washStep]
    · by_cases hw : c.state.washStep = true <;> simp [hb, hc, hw]
  · simp [hc]

/-- The share arbiter at a tick (R93, R98, R99). -/
theorem Arbiter.countTick_eq (x : Arbiter) (state : CycleState) : x.countTick (state = .waiting) =
    { x with
      windowTimer :=
        match x.claim with
        | .intent _ .windowed => incTo 200 x.windowTimer
        | _ => x.windowTimer
      backoff := if state = .waiting ∧ 1 < x.backoff then x.backoff - 1 else x.backoff
      refreshTimer := if x.claim.isHold then incTo 200 x.refreshTimer else x.refreshTimer } := by
  have hwindow : (x.countTick (state = .waiting)).windowTimer =
      match x.claim with
      | .intent _ .windowed => incTo 200 x.windowTimer
      | _ => x.windowTimer := by
    unfold Arbiter.countTick
    cases x.claim with
    | none | hold _ => rfl
    | intent _ phase => cases phase <;> rfl
  rw [← hwindow]; simp [Arbiter.countTick]

theorem Link.countTick_eq (l : Link) : l.countTick =
    { l with
      successAge := if l.successAge < 399 then l.successAge + 1 else l.successAge
      offTimer := if l.mode = .off then incTo 100 l.offTimer else l.offTimer } := rfl

/-- The scanner at a tick: the scan count with the conversions due at it and, at a tick that is no second tick, the
capture delay count (R33, R45, log 27). -/
theorem Scanner.countTick_eq (x : Scanner) (second filtering : Bool) : x.countTick second filtering =
    { x with
      scanCount := (x.scanCount + 1) % 10
      channels := x.channels.markDue ((x.scanCount + 1) % 10)
      captureDelay :=
        if second = false ∧ x.captureArmed = true ∧ filtering = true then incTo 6000 x.captureDelay
        else x.captureDelay } := by
  unfold Scanner.countTick Scanner.countCapture
  cases second with
  | true => rfl
  | false => by_cases hc : x.captureArmed = true ∧ filtering = true <;> simp [hc]

/-- The pacer's count of a tick, or the mark that it is owed to the second tick's recompute (R119, R120, log 26). -/
theorem Dosing.pacerTick_cases (d : Dosing) (late : Bool) :
    ∃ elapsed owed, d.pacerTick late = { d with elapsed := elapsed, countOwed := owed }
      ∧ ((elapsed = (if d.pacing then incTo 65535 d.elapsed else d.elapsed) ∧ owed = d.countOwed)
        ∨ (late = true ∧ d.pacing = true ∧ elapsed = d.elapsed ∧ owed = true)) := by
  unfold Dosing.pacerTick Dosing.countPacer
  by_cases hl : (late && d.pacing) = true
  · rw [if_pos hl]
    obtain ⟨hlate, hp⟩ := Bool.and_eq_true_iff.1 hl
    exact ⟨_, _, rfl, .inr ⟨hlate, hp, rfl, rfl⟩⟩
  · rw [if_neg hl]
    refine ⟨_, d.countOwed, ?_, .inl ⟨rfl, rfl⟩⟩
    split <;> rfl

/-- The dosing unit at a tick but for the pacer (R114, R122, R124). -/
theorem Dosing.countTick_eq (d : Dosing) (holder : Bool) : d.countTick holder =
    { d with
      readingAge := if holder = false ∧ d.readingAge < 1999 then d.readingAge + 1 else d.readingAge
      pulse := if 1 < d.pulse then d.pulse - 1 else d.pulse
      windows := d.windows.map (incTo 49) } := by
  unfold Dosing.countTick; cases holder <;> simp

theorem State.secondNow_eq_false (s : State) : s.secondNow = false ↔ s.phase < 99 := by
  simp [State.secondNow]

/-- Settles O3: block by block, from what each counts at a tick. -/
theorem tickCountsTheRunningTimers : Obligations.TickCountsTheRunningTimers := by
  intro s hq ht sampled count counted
  have hsample : ∀ l, DebouncedLine.sample l = sampled l := DebouncedLine.sample_eq
  obtain ⟨elapsed, owed, hdose, hpacer⟩ :=
    (s.dose.countTick s.sampleHolder).pacerTick_cases (s.secondNow && Config.pacerLate s.serial)
  refine ⟨tick s, step_empty hq, ?_⟩
  rw [tick_of_ticking ht]; dsimp only [countAll]
  rw [hdose, Scanner.countTick_eq]
  refine ⟨rfl, Cycle.countTick_eq _, fun v => ?_, fun i => ?_, Arbiter.countTick_eq _ _, Link.countTick_eq _,
    ?_, fun h => ?_, fun h => ?_, ?_, fun ch => ?_, rfl, rfl, rfl, rfl, rfl⟩
  · rw [Valves.get_map, Valve.tick_eq, hsample, hsample]
  · rw [Inputs.get_sample, hsample]
  · rw [Dosing.countTick_eq]
  · refine hpacer.resolve_right fun hlate => ?_
    rw [(State.secondNow_eq_false s).2 h] at hlate
    exact absurd hlate.1 nofun
  · exact hpacer.imp_right fun hlate => hlate.2
  · simp only [State.secondNow_eq_false]; rfl
  · rw [Channels.get_markDue]; rfl

end Sys2Proof.Machine
end

section
/-! SUPPORT. Every command completes and leaves the queue as it finds it: the queue across the parts of an event, the
bodies of the events, what arrives, and the command. -/

namespace Sys2Proof.Machine

/-! ### The queue across the parts of an event -/

/-- The outcome of a command completes at `s`, leaves the queue of `s`, and below the supply's range is `s` (R159). -/
structure LeavesQueue (o : Host.Outcome State Fault Refusal) (s : State) : Prop where
  completes : ∃ t, o = .next t ∧ t.pending = s.pending
  held      : s.supplyOk = false → o = .next s

theorem leavesQueue_self (s : State) : LeavesQueue (.next s) s := ⟨⟨s, rfl, rfl⟩, fun _ => rfl⟩

/-- An event leaves the queue where its body does. -/
theorem leavesQueue_event {b : Bool} {body : State → State} {s : State} (hb : (body s).pending = s.pending) :
    LeavesQueue (event b body s) s := by
  refine ⟨?_, fun hs => event_held hs b body⟩
  cases hs : s.supplyOk with
  | false => exact ⟨s, event_held hs b body, rfl⟩
  | true => exact ⟨_, event_eq hs b body, (keeps_finish _ _ _).pending.trans hb⟩

theorem whenDue_pending {due : Bool} {effect : State → State} {s : State} (h : (effect s).pending = s.pending) :
    (whenDue due effect s).pending = s.pending := by
  unfold whenDue; split
  · exact h
  · rfl

theorem leavesQueue_secondAt (happens : Bool) (s : State) : LeavesQueue (secondAt happens s) s := by
  rcases secondAt_cases happens s with h | h <;> rw [h]
  · exact leavesQueue_event (keeps_secondWork s).pending
  · exact leavesQueue_self s

/-! ### The bodies of the events -/

theorem settleLoad_pending (acks : Bool) (block : List Byte) (s : State) :
    (settleLoad acks block s).pending = s.pending := by
  unfold settleLoad; split <;> rfl

theorem endStarting_pending (s : State) : (endStarting s).pending = s.pending := by
  unfold endStarting; split
  · exact ((((keeps_setValves s _).trans (keeps_arbiterSurvey _)).trans (keeps_setDose _ _)).trans
      (keeps_enterRecovering _)).pending
  · rfl

theorem takeConversion_pending (ch : ChannelId) (count : BitVec 12) (s : State) :
    (takeConversion ch count s).pending = s.pending := by
  have hafter : ∀ u : State, (afterConversion ch u).pending = u.pending := by
    intro u; unfold afterConversion; split
    · split <;> rfl
    all_goals rfl
  unfold takeConversion; simp only
  split
  · exact hafter _
  · rfl

theorem takeSwitch_pending (v : ValveId) (p : Position) (level : Bool) (s : State) :
    (takeSwitch v p level s).pending = s.pending := by
  unfold takeSwitch; simp only
  split
  · rfl
  · split
    · rfl
    · exact (keeps_channelEvent _ _ s).pending

theorem risingEdge_pending (i : DiscreteInput) (s : State) : (risingEdge i s).pending = s.pending := by
  cases i with
  | manualWash =>
    simp only [risingEdge, pressManualWash]; split
    · rfl
    · exact (keeps_operatorWash s).pending
  | inhibitKey =>
    simp only [risingEdge, keyAsserts]; split
    · rfl
    · exact (keeps_endContestUncounted s).pending
  | tankLow =>
    simp only [risingEdge, tankRunsLow]; split
    · exact (keeps_cutShort _ s).pending
    · exact (keeps_endContestUncounted s).pending
  | flowOk | doseFb => rfl

theorem takeInput_pending (i : DiscreteInput) (level : Bool) (s : State) :
    (takeInput i level s).pending = s.pending := by
  unfold takeInput; simp only
  split
  · rfl
  · split
    · exact risingEdge_pending i _
    · rfl

theorem backwashOver_pending (s : State) : (backwashOver s).pending = s.pending := by
  unfold backwashOver; split
  · exact (keeps_endBackwash _ s).pending
  · exact whenDue_pending (keeps_endBackwash _ s).pending

theorem windowExpires_pending (s : State) : (windowExpires s).pending = s.pending := by
  unfold windowExpires; split
  · split
    · exact (keeps_winContest _ s).pending
    · rfl
  all_goals rfl

theorem refreshHold_pending (s : State) : (refreshHold s).pending = s.pending := by
  unfold refreshHold; split
  · split <;> rfl
  all_goals rfl

/-! ### What lapses, fails and completes -/

theorem changeEntry_pending (p : Nat) (e : Option PeerEntry) (b : Bool) (s : State) :
    (changeEntry p e b s).pending = s.pending := (changeEntry_peers p e b s).pending

theorem lapseStatus_pending (p : Nat) (s : State) : (lapseStatus p s).pending = s.pending := by
  unfold lapseStatus; split
  · split
    · exact changeEntry_pending _ _ _ _
    · rfl
  · rfl

theorem lapseIntent_pending (p : Nat) (s : State) : (lapseIntent p s).pending = s.pending := by
  unfold lapseIntent; split
  · split
    · exact changeEntry_pending _ _ _ _
    · rfl
  · rfl

theorem lapseHold_pending (p : Nat) (s : State) : (lapseHold p s).pending = s.pending := by
  unfold lapseHold; split
  · split
    · exact changeEntry_pending _ _ _ _
    · rfl
  · rfl

theorem failAttempt_pending (s : State) : (failAttempt s).pending = s.pending := by
  unfold failAttempt; simp only
  split
  · split
    · rfl
    · exact (keeps_linkOffReport _).pending
  · rfl

theorem signalError_pending (s : State) : (signalError s).pending = s.pending := by
  unfold signalError; split
  · rfl
  all_goals exact failAttempt_pending s

theorem reportCompletion_pending (kind : TxKind) (s : State) : (reportCompletion kind s).pending = s.pending := by
  unfold reportCompletion; split
  · unfold windowStarts; split
    · split <;> rfl
    all_goals rfl
  · split <;> rfl
  all_goals rfl

theorem completeTx_pending (s : State) : (completeTx s).pending = s.pending := by
  unfold completeTx; split
  · rfl
  · exact reportCompletion_pending _ _

/-! ### What arrives -/

theorem receiveClaim_pending (p g : Nat) (data : List Byte) (s : State) :
    (receiveClaim p g data s).pending = s.pending := by
  unfold receiveClaim; split
  · rfl
  · split
    iterate 3
      · split
        · rfl
        · exact changeEntry_pending _ _ _ _
    · rfl

theorem receiveReading_pending (p g : Nat) (data : List Byte) (s : State) :
    (receiveReading p g data s).pending = s.pending := by
  have hpeer : ∀ u : State, (peerReading p g u).pending = u.pending := by
    intro u; unfold peerReading; split
    · rfl
    · exact changeEntry_pending _ _ _ _
  unfold receiveReading; split
  · rfl
  · split
    · rfl
    · exact hpeer _

theorem receiveStatus_pending (p g : Nat) (data : List Byte) (s : State) :
    (receiveStatus p g data s).pending = s.pending := by
  unfold receiveStatus; split
  · rfl
  · split
    · rfl
    · exact changeEntry_pending _ _ _ _

theorem carryOut_pending (code : RequestCode) (s : State) : (carryOut code s).pending = s.pending := by
  cases code with
  | washNow => exact (keeps_operatorWash s).pending
  | abandonWash =>
    have hend : ∀ u : State, (enterState .inService (clearDue u)).pending = u.pending := fun u =>
      ((keeps_clearDue u).trans (keeps_enterState _ _)).pending
    simp only [carryOut, abandonWash]
    split
    · exact (keeps_cutShort _ s).pending
    · split
      · exact (hend _).trans (keeps_withdraw s).pending
      · exact hend s
  | inhibitSet =>
    simp only [carryOut, setInhibit]; split
    · rfl
    · exact (keeps_endContestUncounted _).pending
  | isolate => exact ((keeps_clearDue s).trans (keeps_enterCommanding _ _ _)).pending
  | returnToService => exact (keeps_enterRecovering s).pending
  | inhibitClear | doseReset | readCounters | readWashRecord | clearCounters | restart | clearResetCause => rfl

theorem takeRequest_pending (panel : Nat) (code : RequestCode) (arg : Nat) (s : State) :
    (takeRequest panel code arg s).pending = s.pending := by
  unfold takeRequest; simp only
  split
  · rfl
  · exact carryOut_pending code s

theorem handleRequest_pending (panel code arg : Nat) (s : State) :
    (handleRequest panel code arg s).pending = s.pending := by
  unfold handleRequest; split
  · rfl
  · split
    · rfl
    · split
      · rfl
      · split
        · exact takeRequest_pending _ _ _ _
        all_goals rfl

theorem judgeFrame_pending (kind g p : Nat) (data : List Byte) (s : State) :
    (judgeFrame kind g p data s).pending = s.pending := by
  have hrequest : (receiveRequest g data s).pending = s.pending := by
    unfold receiveRequest; split
    · rfl
    · exact handleRequest_pending _ _ _ _
  have hreading := receiveReading_pending p g data s
  unfold judgeFrame
  split
  · rfl
  split
  · rfl
  split
  · exact receiveClaim_pending _ _ _ _
  split
  · split
    · exact hreading
    · rfl
  split
  · exact receiveStatus_pending _ _ _ _
  split
  · exact hrequest
  · rfl

/-- A frame that arrives, whatever it is (R130). -/
theorem receive_pending (f : RxFrame) (s : State) : (receive f s).pending = s.pending := by
  unfold receive; split
  · rfl
  · exact judgeFrame_pending _ _ _ _ _

/-! ### The command -/

/-- Every command but the supply's own (R159). -/
theorem leavesQueue_exec {c : Instr} (s : State) (hp : ∀ straps, c ≠ .powerReset straps)
    (hf : c ≠ .supplyFallsBelowOperatingRange) : LeavesQueue (exec c s) s := by
  cases c with
  | powerReset straps => exact absurd rfl (hp straps)
  | supplyFallsBelowOperatingRange => exact absurd rfl hf
  | lineReset straps =>
    simp only [exec, execLineReset]; split
    next hs => exact ⟨⟨_, rfl, rfl⟩, fun h => absurd (hs.symm.trans h) nofun⟩
    · exact leavesQueue_self s
  | configurationLoadSettles a b r block => exact leavesQueue_event (settleLoad_pending _ _ s)
  | startingEnd => exact leavesQueue_event (endStarting_pending s)
  | secondTick => exact leavesQueue_event (keeps_secondWork s).pending
  | loadingHoldReached | breakthroughHoldReached | waitMinute | readingPeriod => exact leavesQueue_secondAt _ s
  | conversion ch count => exact leavesQueue_event (takeConversion_pending ch count s)
  | clearHoldReached => exact leavesQueue_event (whenDue_pending (keeps_endBackwash _ s).pending)
  | drainDownEnd => exact leavesQueue_event (whenDue_pending (keeps_enterStep _ s).pending)
  | airScourEnd | settleEnd => exact leavesQueue_event (whenDue_pending (keeps_enterStep _ s).pending)
  | backwashEnd => exact leavesQueue_event (backwashOver_pending s)
  | rinseEnd => exact leavesQueue_event (whenDue_pending (keeps_enterReturning s).pending)
  | limitSwitchChange v p level => exact leavesQueue_event (takeSwitch_pending v p level s)
  | reversalPauseEnd v | travelTimeout v => exact leavesQueue_event (whenDue_pending (keeps_channelEvent _ _ s).pending)
  | manualWashEdge | inhibitKeyChange _ | tankLowAssert | doseFbEdge | debouncedInputChange _ _ =>
    exact leavesQueue_event (takeInput_pending _ _ s)
  | claimIntentArrival _ _ _ | claimHoldArrival _ _ _ | claimReleaseArrival _ _ _ | statusArrival _ _ _
  | readingArrival _ _ _ | answerArrival _ | washNow _ _ _ _ | abandonWash _ _ _ _ | inhibitSet _ _ _ _
  | inhibitClear _ _ _ _ | isolate _ _ _ _ | returnToService _ _ _ _ | doseReset _ _ _ _ | readCounters _ _ _ _
  | clearCounters _ _ _ _ | readWashRecord _ _ _ _ | restart _ _ _ _ | clearResetCause _ _ _ _
  | unknownRequest _ _ _ _ _ => exact leavesQueue_event (receive_pending _ s)
  | rxSignalError => exact leavesQueue_event (signalError_pending s)
  | statusLapse p => exact leavesQueue_event (lapseStatus_pending _ s)
  | intentLapse p => exact leavesQueue_event (lapseIntent_pending _ s)
  | holdLapse p => exact leavesQueue_event (lapseHold_pending _ s)
  | contestWindowExpiry => exact leavesQueue_event (windowExpires_pending s)
  | holdRefresh => exact leavesQueue_event (refreshHold_pending s)
  | txFailure => exact leavesQueue_event (whenDue_pending (failAttempt_pending s))
  | txCompletion => exact leavesQueue_event (completeTx_pending s)
  | txAttemptStart => exact leavesQueue_event (body := fun s => s.setLink s.link.startAttempt) rfl
  | lossOfTheMedium => exact leavesQueue_event (body := fun s => s.setLink s.link.loseMedium) rfl
  | readingStale | backoffEnd | offPeriodEnd | connectedLapse | stroke | pulseEnd | feedbackMiss =>
    exact leavesQueue_event (whenDue_pending rfl)

/-- Settles O4: the supply's own commands complete in a reset, and every other one is without effect below its range. -/
theorem everyCommandCompletes : Obligations.EveryCommandCompletes := by
  intro c s
  refine ⟨?_, fun hs hp hf => (leavesQueue_exec s hp hf).held hs⟩
  by_cases hp : ∃ straps, c = .powerReset straps
  · obtain ⟨straps, rfl⟩ := hp
    exact ⟨_, rfl, rfl⟩
  by_cases hf : c = .supplyFallsBelowOperatingRange
  · subst hf; exact ⟨_, rfl, rfl⟩
  exact (leavesQueue_exec s (fun straps h => hp ⟨straps, h⟩) hf).completes

end Sys2Proof.Machine
end

section
/-! SUPPORT. The end of STARTING (R161): the start survey of the channels (R55), the survey as the share arbiter takes it
(R102), and the entry into RECOVERING, or LOCKED_OUT where a channel faults at its command (R27, R31). -/

namespace Sys2Proof.Machine

/-! ### The survey of a channel -/

@[simp] theorem Valve.survey_switch (c : Valve) (p : Position) : c.survey.switch p = c.switch p := by cases p <;> rfl

@[simp] theorem Valve.survey_atLimit (c : Valve) (p : Position) : c.survey.atLimit p = c.atLimit p := by
  simp [Valve.atLimit]

@[simp] theorem Valve.survey_bothAsserted (c : Valve) : c.survey.bothAsserted = c.bothAsserted := rfl

/-- A channel is surveyed CLOSED exactly where it stands at its closed switch alone (R55). -/
theorem Valve.survey_closed_iff (c : Valve) : c.survey.state = .closed ↔ c.atLimit .closed = true := by
  unfold Valve.survey; simp only
  by_cases hb : c.bothAsserted = true
  · have hat : c.atLimit .closed ≠ true := fun h => absurd (Valve.bothAsserted_of_atLimit h) (by simp [hb])
    simp [hb, hat]
  · by_cases hc : c.atLimit .closed = true
    · simp [hb, hc]
    · by_cases ho : c.atLimit .opened = true <;> simp [hb, hc, ho]

/-- A command starts no travel time of its own but 0 (R57, R58). -/
theorem Valve.command_travel {c : Valve} (h : c.travel = 0) (p : Position) : (c.command p).1.travel = 0 := by
  unfold Valve.command; simp only
  split
  · rfl
  split
  · rfl
  split
  · exact h
  split
  · exact h
  · rfl

/-- A surveyed channel at its command, no fault at it: settled where it stands at its limit, else travelling there (R55,
R57). -/
theorem Valve.command_survey {c : Valve} (hb : c.bothAsserted = false) (p : Position) :
    (c.survey.command p).1.state = (if c.atLimit p then settledAt p else towards p)
      ∧ (c.survey.command p).1.target = some p ∧ (c.survey.command p).1.travel = 0 := by
  have htravel := Valve.command_travel (c := c.survey) rfl p
  rcases c.survey.command_cases p with ⟨hat, -, hst, htg⟩ | ⟨hboth, -⟩ | ⟨hat, -, -, hst, htg⟩
  · rw [Valve.survey_atLimit] at hat
    exact ⟨hst.trans (if_pos hat).symm, htg, htravel⟩
  · exact absurd (hb.symm.trans hboth) nofun
  · rw [Valve.survey_atLimit] at hat
    exact ⟨hst.trans (if_neg (by simp [hat])).symm, htg, htravel⟩

/-- A channel commanded closed and then stopped is CLOSED only where it stands there (R57, R59). -/
theorem Valve.atLimit_of_stopped_closed {c : Valve} (h : (c.command .closed).1.stop.state = .closed) :
    c.atLimit .closed = true := by
  rcases c.command_cases .closed with ⟨hat, -⟩ | ⟨-, -, hst, -⟩ | ⟨-, -, -, hst, -⟩
  · exact hat
  all_goals simp [Valve.stop, hst, towards] at h

/-- A channel with both switches asserted faults at a command (R57, case 2). -/
theorem Valves.commandFaults_of_bothAsserted {x : Valves} {v : ValveId} (h : (x.get v).bothAsserted = true)
    (set : ValveSet) : x.commandFaults set = true := by
  refine (ValveFlags.any_iff _).2 ⟨v, ?_⟩
  rw [ValveFlags.get_ofFn, decide_eq_true_eq]
  rcases (x.get v).command_cases (set v) with ⟨hat, -⟩ | ⟨-, hr, -⟩ | ⟨-, hb, -⟩
  · exact absurd ((Valve.bothAsserted_of_atLimit hat).symm.trans h) nofun
  · exact hr
  · exact absurd (hb.symm.trans h) nofun

theorem exists_bothAsserted {s : State} (h : noBothAsserted s = false) : ∃ v, (s.valves.get v).bothAsserted = true := by
  refine Classical.byContradiction fun hn => ?_
  have hb : noBothAsserted s = true :=
    valves_all_iff.2 fun v => by
      cases hv : (s.valves.get v).bothAsserted with
      | true => exact absurd ⟨v, hv⟩ hn
      | false => rfl
  rw [h] at hb; cases hb

/-- The SERVICE set commanded at the entry into RECOVERING: no waste valve leaves CLOSED at it (R2, R67). -/
theorem commandSet_recovering {s : State} (hf : s.cycle.state.filtering = false) (hclosed : closedStand s = true) :
    commandSet serviceSet (enterState .recovering s) = inRecovering s := by
  rw [enterState_of_not_filtering hf]
  refine commandSet_of_closed (nofun : CycleState.recovering ≠ .lockedOut) fun v hv hstate => ⟨?_, ?_⟩
  · cases v with
    | washOut | rinse => rfl
    | inlet | outlet | washIn | air => cases hv
  · have hst : (s.valves.get v).state = .closed := hstate
    simpa [hst] using valves_all_iff.1 hclosed v

/-! ### The station surveyed -/

/-- Both waste valves stand at their closed switches (R102). -/
def startsClean (s : State) : Bool := s.valves.washOut.atLimit .closed && s.valves.rinse.atLimit .closed

/-- `s` surveyed: the channels (R55), the first CLAIM with a forced hold where the waste valves do not stand closed
(R102), and the reading period count at 0 (R111). -/
def surveyed (s : State) : State :=
  { s with
    valves := s.valves.map fun _ c => c.survey
    arb := if startsClean s then s.arb else heldByForce s.arb
    link := s.link.offer
      (claimFrame s none (if startsClean s then [3, 0, 0, 2] else [2, 255, byte s.cfg.washFlow, 0]))
    dose := { s.dose with periodCount := 0 } }

theorem wasteClosed_survey (x : Valves) :
    (x.map fun _ c => c.survey).wasteClosed = (x.washOut.atLimit .closed && x.rinse.atLimit .closed) := by
  rw [Bool.eq_iff_iff, Bool.and_eq_true, ← Valve.survey_closed_iff, ← Valve.survey_closed_iff]
  simp only [Valves.wasteClosed, Bool.and_eq_true, decide_eq_true_eq]; rfl

/-- STARTING ends at its tick in the survey and the entry into RECOVERING (R161, R31). -/
theorem endStarting_eq {s : State} (h : startingOver s = true) : endStarting s = enterRecovering (surveyed s) := by
  have hwaste : (s.setValves (s.valves.map fun _ c => c.survey)).valves.wasteClosed = startsClean s :=
    wasteClosed_survey s.valves
  unfold endStarting arbiterSurvey surveyed; rw [if_pos h, hwaste]
  cases startsClean s <;> rfl

theorem endStarting_early {s : State} (h : s.phase < 6) : endStarting s = s := by
  have hover : startingOver s = false := by
    have : ¬ 6 ≤ s.phase := by omega
    simp [startingOver, this]
  unfold endStarting; rw [hover]; rfl

theorem noBothAsserted_surveyed (s : State) : noBothAsserted (surveyed s) = noBothAsserted s := by
  simp [noBothAsserted, surveyed]

theorem standsAt_surveyed (set : ValveSet) (s : State) : standsAt set (surveyed s) = standsAt set s := by
  simp [standsAt, surveyed]

/-- A channel surveyed CLOSED stands at its closed switch alone (R55). -/
theorem closedStand_surveyed (s : State) : closedStand (surveyed s) = true :=
  valves_all_iff.2 fun v => by
    have hclosed := (s.valves.get v).survey_closed_iff
    by_cases hat : (s.valves.get v).atLimit .closed = true <;> simp [surveyed, hclosed, hat]

/-- No claim but that of the forced hold (R102). -/
theorem surveyed_isHold {s : State} (h : s.arb.claim = .none) :
    (surveyed s).arb.claim.isHold = !startsClean s := by
  unfold surveyed heldByForce; dsimp only
  cases startsClean s <;> simp [h, OwnClaim.isHold]

theorem startsClean_of_standsAt {s : State} (h : standsAt serviceSet s = true) : startsClean s = true := by
  have hat := valves_all_iff.1 h
  exact Bool.and_eq_true_iff.2 ⟨hat .washOut, hat .rinse⟩

/-! ### The state after STARTING -/

/-- `s` surveyed and commanded to the SERVICE set, in cycle state `new` with the channels `x` (R24, R31). -/
def started (new : CycleState) (x : Valves) (s : State) : State :=
  { surveyed s with
    cycle := cycleIn new { s.cycle with confirmed := (surveyed s).valves.confirmations serviceSet }
    valves := x }

/-- No channel faulting at its command: RECOVERING, or past it where the SERVICE set stands (R2, R24). -/
theorem enterRecovering_surveyed {s : State} (hs : s.cycle.state = .starting) (hclaim : s.arb.claim = .none)
    (hb : noBothAsserted s = true) :
    enterRecovering (surveyed s) =
      started
        (if standsAt serviceSet s then (if s.cycle.due = .none then .inService else .waiting) else .recovering)
        ((surveyed s).valves.command serviceSet) s := by
  have hf : (surveyed s).cycle.state.filtering = false := congrArg CycleState.filtering hs
  rw [enterRecovering_eq hf ((noBothAsserted_surveyed s).trans hb) (closedStand_surveyed s), standsAt_surveyed]
  by_cases hstand : standsAt serviceSet s = true
  · have hhold : (surveyed s).arb.claim.isHold ≠ true := by
      rw [surveyed_isHold hclaim, startsClean_of_standsAt hstand]; decide
    rw [if_pos hstand, if_pos hstand, recoveringSettled_eq, if_neg hhold, if_neg hhold]; rfl
  · rw [if_neg hstand, if_neg hstand]; rfl

/-- The forced hold of the survey is not released at a lockout: a waste valve does not stand closed (R102, R104). -/
theorem releaseAtLockout_started {s : State} (hclaim : s.arb.claim = .none) :
    releaseAtLockout (started .lockedOut (((surveyed s).valves.command serviceSet).map fun _ c => c.stop) s) =
      started .lockedOut (((surveyed s).valves.command serviceSet).map fun _ c => c.stop) s := by
  refine if_neg fun h => ?_
  obtain ⟨hhold, hwaste⟩ := Bool.and_eq_true_iff.1 h
  obtain ⟨hout, hrinse⟩ := Bool.and_eq_true_iff.1 hwaste
  have hclean : startsClean s = true := by
    refine Bool.and_eq_true_iff.2 ⟨?_, ?_⟩ <;> rw [← Valve.survey_atLimit]
    · exact Valve.atLimit_of_stopped_closed (of_decide_eq_true hout)
    · exact Valve.atLimit_of_stopped_closed (of_decide_eq_true hrinse)
  have hheld : (surveyed s).arb.claim.isHold = true := hhold
  rw [surveyed_isHold hclaim, hclean] at hheld; cases hheld

/-- A channel with both switches asserted faults at its command, and the station is locked out (R27, R57). -/
theorem enterRecovering_stuck {s : State} (hs : s.cycle.state = .starting) (hclaim : s.arb.claim = .none)
    (hb : noBothAsserted s = false) :
    enterRecovering (surveyed s) =
      started .lockedOut (((surveyed s).valves.command serviceSet).map fun _ c => c.stop) s := by
  have hf : (surveyed s).cycle.state.filtering = false := congrArg CycleState.filtering hs
  have hcmd : commandSet serviceSet (enterState .recovering (surveyed s)) = inRecovering (surveyed s) :=
    commandSet_recovering hf (closedStand_surveyed s)
  have hfault : (enterState .recovering (surveyed s)).valves.commandFaults serviceSet = true := by
    obtain ⟨v, hv⟩ := exists_bothAsserted ((noBothAsserted_surveyed s).trans hb)
    rw [enterState_valves]
    exact Valves.commandFaults_of_bothAsserted hv serviceSet
  have hlock : lockOut (inRecovering (surveyed s)) =
      releaseAtLockout (started .lockedOut (((surveyed s).valves.command serviceSet).map fun _ c => c.stop) s) := by
    have henter := enterState_of_not_filtering (s := inRecovering (surveyed s)) rfl .lockedOut
    have hstate : (inRecovering (surveyed s)).cycle.state ≠ .returning := nofun
    unfold lockOut; simp only [if_neg hstate, henter]; rfl
  unfold enterRecovering enterCommanding
  simp only [hfault, if_true]
  rw [hcmd, hlock, releaseAtLockout_started hclaim]

/-- What STARTING ends in at its tick, by whether a channel faults at its command (R27, R31). -/
theorem endStarting_started {s : State} (hs : s.cycle.state = .starting) (hclaim : s.arb.claim = .none)
    (hover : startingOver s = true) :
    ∃ new x, endStarting s = started new x s ∧ new ≠ .starting
      ∧ (noBothAsserted s = false → new = .lockedOut)
      ∧ (noBothAsserted s = true →
          new = (if standsAt serviceSet s then (if s.cycle.due = .none then .inService else .waiting) else .recovering)
          ∧ ∀ v, (x.get v).state =
              (if (s.valves.get v).atLimit (serviceSet v) then settledAt (serviceSet v) else towards (serviceSet v))
            ∧ (x.get v).target = some (serviceSet v) ∧ (x.get v).travel = 0) := by
  rw [endStarting_eq hover]
  cases hb : noBothAsserted s with
  | true =>
    refine ⟨_, _, enterRecovering_surveyed hs hclaim hb, ?_, nofun, fun _ => ⟨rfl, fun v => ?_⟩⟩
    · split
      · split <;> nofun
      · nofun
    · rw [Valves.get_command]
      have hv : (s.valves.get v).bothAsserted = false := by simpa using valves_all_iff.1 hb v
      have hsurvey : (surveyed s).valves.get v = (s.valves.get v).survey := Valves.get_map _ _ v
      rw [hsurvey]; exact Valve.command_survey hv (serviceSet v)
  | false => exact ⟨_, _, enterRecovering_stuck hs hclaim hb, nofun, fun _ => rfl, nofun⟩

/-- Settles O12: before the sixth tick the take alone, at it the survey and what `started` spells out, with the STATUS of
that change. -/
theorem startingEndsWithTheSurvey : Obligations.StartingEndsWithTheSurvey := by
  intro s hsup hs hload hclaim
  refine ⟨fun h => event_quiet_of_body hsup (endStarting_early h) rfl, fun h => ?_⟩
  have hover : startingOver s = true := by simp [startingOver, hs, hload, h]
  obtain ⟨new, x, hbody, hne, hstuck, hfree⟩ := endStarting_started hs hclaim hover
  refine completes_change hsup rfl hbody hne (hs ▸ hne) fun t ht => ?_
  obtain ⟨l, rfl⟩ : ∃ l, t = (started new x s).setLink l := ⟨_, ht⟩
  refine ⟨?_, congrArg State.link ht, rfl, hstuck, hfree, rfl, rfl, rfl, rfl, rfl, rfl, rfl, rfl⟩
  show (if startsClean s then s.arb else heldByForce s.arb).claim = if startsClean s then .none else .hold 255
  cases startsClean s
  · rfl
  · exact hclaim

end Sys2Proof.Machine
end

section
/-! SUPPORT. The step on a queue that is not empty (00, section 1.6), and the state after reset as what a POWER reset leaves,
so that what every reset gives the laws holds of it (09, section 10.7). -/

namespace Sys2Proof.Machine

/-! ### The step on a queue -/

theorem step_of_pending {s : State} {c : Instr} {rest : List Instr} (h : s.pending = c :: rest) :
    step s = exec c (s.setPending rest) := by unfold step; rw [h]

/-- Settles O1: the queue is the one item that putting the front command on it changed, and taking it puts the rest
there. -/
theorem stepTakesTheFrontCommand : Obligations.StepTakesTheFrontCommand := by
  intro c rest s
  have hrest : (s.setPending (c :: rest)).setPending rest = s.setPending rest := rfl
  rw [step_of_pending (s := s.setPending (c :: rest)) rfl, hrest]

/-! ### The state after reset -/

/-- A POWER reset of the state after reset leaves it as it is (R159). -/
theorem resetStation_reset : resetStation .power State.reset = State.reset := rfl

theorem peerOk_reset : PeerOk State.reset := resetStation_reset ▸ peerOk_resetStation .power State.reset

theorem linkLawful_reset : State.reset.link.Lawful := resetStation_reset ▸ linkLawful_resetStation .power State.reset

theorem drainOk_reset : DrainOk State.reset := resetStation_reset ▸ drainOk_resetStation .power State.reset

theorem scanOk_reset : ScanOk State.reset := resetStation_reset ▸ scanOk_resetStation .power State.reset

/-- The wait, the step and the wash stand at 0, no wash is recorded and STARTING asks for none (R1, R29, R30). -/
theorem cycleOk_reset : CycleOk State.reset := by
  have hrange : State.reset.cycle.InRange :=
    { waitMinutes := Nat.zero_le _, waitSeconds := Nat.zero_le _, stepTimer := Nat.zero_le _
      clearHold := Nat.zero_le _, backwashSeconds := Nat.zero_le _, runSeconds := Nat.zero_le _
      recordCount := Nat.zero_le _, records := List.forall_mem_nil _ }
  have hbounds : builtInDefaults.backwashMin ≤ builtInDefaults.backwashMax := by decide
  exact ⟨{ hrange with
    due := nofun, stepTimerIdle := fun _ => rfl, clearHoldIdle := fun _ => rfl, outcome := nofun }, hbounds⟩

/-- Dosing is HELD with nothing latched, and the reading is as old as an age counts (R109, R115). -/
theorem dosingOk_reset : DosingOk State.reset where
  unit :=
    { elapsed := Nat.zero_le _, missCount := Nat.zero_le _, strokeCount := Nat.zero_le _, readingAge := Nat.le_refl _
      windows := nofun, paced := nofun, idle := fun _ => rfl, absent := fun _ => ⟨rfl, rfl, rfl⟩, present := nofun
      latch := ⟨nofun, nofun⟩ }
  minLow := (by decide : 30 ≤ builtInDefaults.minStrokeInterval)
  minTop := (by decide : builtInDefaults.minStrokeInterval ≤ 300)
  begun h := absurd rfl h

/-- Every counter of 00 section 1.6 stands at 0. -/
theorem countersOk_reset : CountersOk State.reset where
  link := ⟨Nat.zero_le _, Nat.zero_le _, Nat.zero_le _, Nat.zero_le _⟩
  claimLapses := Nat.zero_le _
  statusLapses := Nat.zero_le _
  contestsLost := Nat.zero_le _
  overlaps := Nat.zero_le _
  dropped := Nat.zero_le _
  duplicateReadings := Nat.zero_le _

/-- A channel after a reset is STOPPED without a target, wherever its switch pins stand (R53). -/
theorem Valve.wf_fresh (openRaw closedRaw : Bool) : (Valve.fresh openRaw closedRaw).wf = true := rfl

/-- After a reset, in STARTING, every channel is provisionally STOPPED (R53). -/
theorem valveLaw_resetStation (k : ResetKind) (s : State) : valveLaw (resetStation k s) = true := by
  refine valves_all_iff.2 fun v => ?_
  have hfresh : (resetStation k s).valves.get v =
      .fresh (s.valves.get v).openSwitch.raw (s.valves.get v).closedSwitch.raw := Valves.get_map s.valves _ v
  have hstarting : (resetStation k s).cycle.state = .starting := rfl
  rw [hfresh, Valve.wf_fresh, if_pos hstarting]; rfl

theorem valveLaw_reset : valveLaw State.reset = true := resetStation_reset ▸ valveLaw_resetStation .power State.reset

/-- Settles O53: the laws of the peer table, the link, the drain, the valves and the scanner hold after every reset; those
that bear on what a LINE or REQUEST reset keeps hold of the values of a POWER reset. -/
theorem resetStateHasEveryLaw : Obligations.ResetStateHasEveryLaw :=
  ⟨(peerLaw_iff _).2 peerOk_reset, (linkLaw_iff _).2 linkLawful_reset, (drainLaw_iff _).2 drainOk_reset,
    (cycleLaw_iff _).2 cycleOk_reset, valveLaw_reset, (dosingLaw_iff _).2 dosingOk_reset,
    (scanLaw_iff _).2 scanOk_reset, (counterLaw_iff _).2 countersOk_reset⟩

end Sys2Proof.Machine
end

section
/-! SUPPORT. One valve channel by the tables of R57 and R59, and what each of its operations leaves of a record that
agrees with its state (R53, R62). -/

namespace Sys2Proof.Machine

/-! ### The tables -/

/-- The position a command goes toward is no part of where the channel stands. -/
@[simp] theorem Valve.atLimit_setTarget (c : Valve) (x : Option Position) (p : Position) :
    ({ c with target := x } : Valve).atLimit p = c.atLimit p := by cases p <;> rfl

theorem Valve.bothAsserted_setTarget (c : Valve) (x : Option Position) :
    ({ c with target := x } : Valve).bothAsserted = c.bothAsserted := rfl

/-- Case 1 of R57: the channel stands at its limit already. -/
theorem Valve.command_of_atLimit {c : Valve} {p : Position} (h : c.atLimit p = true) :
    c.command p = ({ c with state := settledAt p, target := some p, travel := 0, pause := 0 }, .confirmation) := by
  unfold Valve.command; simp only [Valve.atLimit_setTarget]
  rw [if_pos h]; rfl

/-- Case 2 of R57: both switches are asserted. -/
theorem Valve.command_of_bothAsserted {c : Valve} (h : c.bothAsserted = true) (p : Position) :
    c.command p = ({ c with state := .fault .switches, target := none, travel := 0, pause := 0 }, .fault) := by
  have hat : ¬ c.atLimit p = true := fun hat => by rw [Valve.bothAsserted_of_atLimit hat] at h; cases h
  unfold Valve.command; simp only [Valve.atLimit_setTarget, Valve.bothAsserted_setTarget]
  rw [if_neg hat, if_pos h]; rfl

/-- Case 3 of R57 by its table: the drive that is on goes on, is reversed (R58), or is started. -/
theorem Valve.command_elsewhere {c : Valve} {p : Position} (hat : c.atLimit p = false) (hb : c.bothAsserted = false) :
    c.command p =
      if c.state = towards p then ({ c with target := some p }, .none)
      else if c.state = towards p.other then (({ c with target := some p } : Valve).reverse p, .none)
      else ({ c with state := towards p, target := some p, travel := 0, pause := 0 }, .none) := by
  unfold Valve.command; simp only [Valve.atLimit_setTarget, Valve.bothAsserted_setTarget]
  rw [if_neg (by simp [hat]), if_neg (by simp [hb])]; rfl

theorem Position.other_ne (p : Position) : p.other ≠ p := by cases p <;> decide

/-- Settles O25: the three cases of R57, the third by whether the channel travels, and where to. -/
theorem commandFollowsTheTable : Obligations.CommandFollowsTheTable := by
  intro c p
  refine ⟨Valve.command_of_atLimit, fun h => Valve.command_of_bothAsserted h p, fun hat hb => ?_⟩
  rw [Valve.command_elsewhere hat hb]
  refine ⟨fun h => if_pos h, fun h => ?_, fun h => ?_⟩
  · rw [if_neg (by rw [h, towards_inj]; exact Position.other_ne p), if_pos h]; rfl
  · have hn : ∀ q, c.state ≠ towards q := fun q hq => by rw [hq, towards_travelling] at h; cases h
    rw [if_neg (hn _), if_neg (hn _)]

/-- Settles O26: a stop by the state it finds (R59). -/
theorem stopFollowsTheTable : Obligations.StopFollowsTheTable := by
  intro c
  unfold Valve.stop
  refine ⟨?_, ?_, ?_⟩
  · rintro (h | h) <;> rw [h]
  · rintro (h | h) <;> rw [h]
  · rintro (h | h)
    · cases hc : c.state with
      | fault cause | stopped => rfl
      | closed | opening | opened | closing => rw [hc] at h; cases h
    · rw [h]

/-! ### A record that agrees with its state -/

/-- A channel is settled, travels, or rests in FAULT or STOPPED (03, section 4.3). -/
theorem ValveState.settled_or_travelling_or_rests (x : ValveState) :
    (∃ p, x = settledAt p) ∨ (∃ p, x = towards p) ∨ (x.isFault = true ∨ x = .stopped) := by
  cases x with
  | closed => exact .inl ⟨.closed, rfl⟩
  | opened => exact .inl ⟨.opened, rfl⟩
  | opening => exact .inr (.inl ⟨.opened, rfl⟩)
  | closing => exact .inr (.inl ⟨.closed, rfl⟩)
  | stopped => exact .inr (.inr (.inr rfl))
  | fault cause => exact .inr (.inr (.inl rfl))

theorem ValveState.isFault_iff {x : ValveState} : x.isFault = true ↔ ∃ cause, x = .fault cause := by
  cases x with
  | fault cause => exact ⟨fun _ => ⟨cause, rfl⟩, fun _ => rfl⟩
  | closed | opening | opened | closing | stopped => exact ⟨nofun, nofun⟩

theorem ValveState.travelling_of_rests {x : ValveState} (h : x.isFault = true ∨ x = .stopped) :
    x.travelling = false := by
  rcases h with h | rfl
  · obtain ⟨cause, rfl⟩ := ValveState.isFault_iff.1 h; rfl
  · rfl

theorem ValveState.not_towards_of_rests {x : ValveState} (h : x.isFault = true ∨ x = .stopped) (p : Position) :
    x ≠ towards p := by
  rintro rfl
  cases (towards_travelling p).symm.trans (ValveState.travelling_of_rests h)

theorem ValveState.not_settled_of_rests {x : ValveState} (h : x.isFault = true ∨ x = .stopped) (p : Position) :
    x ≠ settledAt p := by
  rcases h with h | rfl
  · exact ValveState.not_settled_of_isFault h p
  · cases p <;> nofun

theorem Valve.wf_settled {c : Valve} {p : Position} (h : c.state = settledAt p) :
    c.wf = true ↔ c.atLimit p = true ∧ c.target ≠ some p.other ∧ c.travel = 0 ∧ c.pause = 0 := by
  have hwf : c.wf = true ↔ (c.travel ≤ 12000 ∧ c.pause ≤ 20)
      ∧ c.atLimit p = true ∧ c.target ≠ some p.other ∧ c.travel = 0 ∧ c.pause = 0 := by
    cases p <;> simp [Valve.wf, h, settledAt, Position.other, and_assoc]
  rw [hwf]
  exact ⟨fun h => h.2, fun h => ⟨⟨by omega, by omega⟩, h⟩⟩

theorem Valve.wf_travelling {c : Valve} {p : Position} (h : c.state = towards p) :
    c.wf = true ↔ c.travel ≤ 12000 ∧ c.pause ≤ 20 ∧ c.target = some p := by
  cases p <;> simp [Valve.wf, h, towards, and_assoc]

theorem Valve.wf_resting {c : Valve} (h : c.state.isFault = true ∨ c.state = .stopped) :
    c.wf = true ↔ c.target = none ∧ c.travel = 0 ∧ c.pause = 0 := by
  have hwf : c.wf = true ↔ (c.travel ≤ 12000 ∧ c.pause ≤ 20) ∧ c.target = none ∧ c.travel = 0 ∧ c.pause = 0 := by
    rcases h with h | h
    · obtain ⟨cause, hs⟩ := ValveState.isFault_iff.1 h
      simp [Valve.wf, hs, and_assoc]
    · simp [Valve.wf, h, and_assoc]
  rw [hwf]
  exact ⟨fun h => h.2, fun h => ⟨⟨by omega, by omega⟩, h⟩⟩

/-- A channel as the valve law asks for it outside STARTING: its record agrees with its state, and with both switches
asserted it is in FAULT (R53, R62). -/
structure Valve.Lawful (c : Valve) : Prop where
  wf   : c.wf = true
  both : c.bothAsserted = true → c.state.isFault = true

/-- A channel outside FAULT has a switch released. -/
theorem Valve.Lawful.bothAsserted_eq_false {c : Valve} (h : c.Lawful) (hf : c.state.isFault = false) :
    c.bothAsserted = false := by
  rw [Bool.eq_false_iff]; intro hb
  rw [h.both hb] at hf; cases hf

theorem towards_not_fault (p : Position) : (towards p).isFault = false := by cases p <;> rfl

/-- Settled at a limit with the timers at 0 (R57, R60). -/
theorem Valve.lawful_settled {c : Valve} {p : Position} (hs : c.state = settledAt p) (hat : c.atLimit p = true)
    (htarget : c.target ≠ some p.other) (htravel : c.travel = 0) (hpause : c.pause = 0) : c.Lawful :=
  ⟨(Valve.wf_settled hs).2 ⟨hat, htarget, htravel, hpause⟩, fun hb => by
    rw [Valve.bothAsserted_of_atLimit hat] at hb; cases hb⟩

/-- An arrival (R60). -/
theorem Valve.lawful_settleAt {c : Valve} {p : Position} (hat : c.atLimit p = true) (htarget : c.target = some p) :
    (c.settleAt p).Lawful :=
  Valve.lawful_settled (c := c.settleAt p) rfl hat
    (fun h => Position.other_ne p (Option.some.inj (h.symm.trans htarget))) rfl rfl

theorem Valve.lawful_travelling {c : Valve} {p : Position} (hs : c.state = towards p) (hb : c.bothAsserted = false)
    (htarget : c.target = some p) (htravel : c.travel ≤ 12000) (hpause : c.pause ≤ 20) : c.Lawful :=
  ⟨(Valve.wf_travelling hs).2 ⟨htravel, hpause, htarget⟩, fun h => by rw [hb] at h; cases h⟩

/-- FAULT has no target and no timer runs in it, wherever the switches are (R61 to R63). -/
theorem Valve.lawful_enterFault (c : Valve) (cause : FaultCause) : (c.enterFault cause).Lawful :=
  ⟨(Valve.wf_resting (.inl rfl)).2 ⟨rfl, rfl, rfl⟩, fun _ => rfl⟩

/-! ### What an operation leaves of it -/

/-- The timers stay in their ranges (R53). -/
theorem Valve.Lawful.timers {c : Valve} (h : c.Lawful) : c.travel ≤ 12000 ∧ c.pause ≤ 20 := by
  rcases c.state.settled_or_travelling_or_rests with ⟨p, hs⟩ | ⟨p, hs⟩ | hs
  · obtain ⟨-, -, ht, hp⟩ := (Valve.wf_settled hs).1 h.wf
    omega
  · obtain ⟨ht, hp, -⟩ := (Valve.wf_travelling hs).1 h.wf
    exact ⟨ht, hp⟩
  · obtain ⟨-, ht, hp⟩ := (Valve.wf_resting hs).1 h.wf
    omega

/-- A command leaves a lawful channel lawful, by the cases of R57. -/
theorem Valve.Lawful.command {c : Valve} (h : c.Lawful) (p : Position) : (c.command p).1.Lawful := by
  cases hat : c.atLimit p with
  | true =>
    rw [Valve.command_of_atLimit hat]
    exact Valve.lawful_settled (p := p) rfl hat (by cases p <;> nofun) rfl rfl
  | false =>
  cases hb : c.bothAsserted with
  | true => rw [Valve.command_of_bothAsserted hb]; exact Valve.lawful_enterFault c _
  | false =>
    obtain ⟨htravel, hpause⟩ := h.timers
    rw [Valve.command_elsewhere hat hb]
    split
    next hs => exact Valve.lawful_travelling hs hb rfl htravel hpause
    · split
      · refine Valve.lawful_travelling (p := p) rfl hb rfl htravel ?_
        show (if c.pause = 0 then 20 else c.pause) ≤ 20
        split <;> omega
      · exact Valve.lawful_travelling (p := p) rfl hb rfl (Nat.zero_le _) (Nat.zero_le _)

/-- A stop leaves it lawful, by the table of R59. -/
theorem Valve.Lawful.stop {c : Valve} (h : c.Lawful) : c.stop.Lawful := by
  obtain ⟨htravels, hsettled, hrests⟩ := stopFollowsTheTable c
  rcases c.state.settled_or_travelling_or_rests with ⟨p, hs⟩ | ⟨p, hs⟩ | hs
  · obtain ⟨hat, -, ht, hp⟩ := (Valve.wf_settled hs).1 h.wf
    rw [hsettled (by cases p <;> simp [hs, settledAt])]
    exact Valve.lawful_settled (p := p) hs ((Valve.atLimit_setTarget c none p).trans hat) nofun ht hp
  · have hb := h.bothAsserted_eq_false (by rw [hs, towards_not_fault])
    rw [htravels (by cases p <;> simp [hs, towards])]
    exact ⟨(Valve.wf_resting (.inr rfl)).2 ⟨rfl, rfl, rfl⟩, fun hb' => by cases hb.symm.trans hb'⟩
  · rw [hrests hs]; exact h

/-- The start survey leaves it lawful, wherever the switches are (R55). -/
theorem Valve.lawful_survey (c : Valve) : c.survey.Lawful := by
  unfold Valve.survey
  split
  next hb => exact ⟨(Valve.wf_resting (.inl rfl)).2 ⟨rfl, rfl, rfl⟩, fun _ => rfl⟩
  next hb =>
    split
    next hat => exact Valve.lawful_settled (p := .closed) rfl hat nofun rfl rfl
    · split
      next hat => exact Valve.lawful_settled (p := .opened) rfl hat nofun rfl rfl
      · exact ⟨(Valve.wf_resting (.inr rfl)).2 ⟨rfl, rfl, rfl⟩, fun hb' => absurd hb' hb⟩

/-- The end of a pause leaves it lawful: settled at the target, or on its way there (R58). -/
theorem Valve.Lawful.endPause {c : Valve} (h : c.Lawful) : c.endPause.1.Lawful := by
  unfold Valve.endPause
  split
  next p hp =>
    have hs := ValveState.destination_eq_some hp
    obtain ⟨-, -, htarget⟩ := (Valve.wf_travelling hs).1 h.wf
    split
    next hat => exact Valve.lawful_settleAt hat htarget
    · exact Valve.lawful_travelling (c := c.startDrive p) rfl
        (h.bothAsserted_eq_false (by rw [hs, towards_not_fault])) htarget (Nat.zero_le _) (Nat.zero_le _)
  · exact h

/-- A tick leaves the positions at which a channel stands (R54). -/
theorem Valve.tick_atLimit (c : Valve) (p : Position) : c.tick.atLimit p = c.atLimit p := by
  obtain ⟨-, -, ho, hc⟩ := c.tick_state
  cases p <;> simp only [Valve.atLimit, Valve.switch, Position.other, ho, hc]

theorem Valve.tick_bothAsserted (c : Valve) : c.tick.bothAsserted = c.bothAsserted := by
  obtain ⟨-, -, ho, hc⟩ := c.tick_state
  simp only [Valve.bothAsserted, ho, hc]

/-- A drive is on, or a pause runs, while travelling alone: elsewhere a tick leaves the timers (R56, R58). -/
theorem Valve.countTick_idle {c : Valve} (h : c.state.travelling = false) : c.countTick = c := by
  have hd : c.driven = false := by
    rw [Bool.eq_false_iff]; intro hd
    rw [Valve.travelling_of_driven hd] at h; cases h
  simp [Valve.countTick, h, hd]

theorem Valve.countTick_timers {c : Valve} (ht : c.travel ≤ 12000) (hp : c.pause ≤ 20) :
    c.countTick.travel ≤ 12000 ∧ c.countTick.pause ≤ 20 := by
  unfold Valve.countTick
  split
  · exact ⟨incTo_le _ _, hp⟩
  · split
    · exact ⟨ht, (Nat.sub_le _ _).trans hp⟩
    · exact ⟨ht, hp⟩

/-- A tick of a resting channel leaves its record (R53, R56). -/
theorem Valve.wf_tick_resting {c : Valve} (h : c.state.isFault = true ∨ c.state = .stopped) (hwf : c.wf = true) :
    c.tick.wf = true := by
  obtain ⟨hstate, htarget, -, -⟩ := c.tick_state
  have hidle : c.countTick = c := Valve.countTick_idle (ValveState.travelling_of_rests h)
  obtain ⟨hto, htimers⟩ := (Valve.wf_resting h).1 hwf
  refine (Valve.wf_resting (hstate.symm ▸ h)).2 ⟨htarget.trans hto, ?_⟩
  unfold Valve.tick; rwa [hidle]

/-- A tick counts within the ranges, and counts nothing but while travelling. -/
theorem Valve.Lawful.tick {c : Valve} (h : c.Lawful) : c.tick.Lawful := by
  obtain ⟨hstate, htarget, -, -⟩ := c.tick_state
  refine ⟨?_, fun hb => ?_⟩
  · rcases c.state.settled_or_travelling_or_rests with ⟨p, hs⟩ | ⟨p, hs⟩ | hs
    · obtain ⟨hat, ht, htimers⟩ := (Valve.wf_settled hs).1 h.wf
      have hidle : c.countTick = c := Valve.countTick_idle (by rw [hs, settledAt_travelling])
      refine (Valve.wf_settled (hstate.trans hs)).2 ⟨c.tick_atLimit p ▸ hat, htarget ▸ ht, ?_⟩
      unfold Valve.tick; rwa [hidle]
    · obtain ⟨ht, hp, hto⟩ := (Valve.wf_travelling hs).1 h.wf
      obtain ⟨ht', hp'⟩ := Valve.countTick_timers ht hp
      exact (Valve.wf_travelling (hstate.trans hs)).2 ⟨ht', hp', htarget.trans hto⟩
    · exact Valve.wf_tick_resting hs h.wf
  · rw [Valve.tick_bothAsserted] at hb
    rw [hstate]; exact h.both hb

/-! ### A limit switch -/

/-- A switch that takes a level is at it, and the other stands. -/
theorem Valve.atLimit_setSwitch (c : Valve) (p : Position) (level : Bool) :
    (c.setSwitch p (.changeTo level)).atLimit p = (level && !(c.switch p.other).level)
      ∧ (c.setSwitch p (.changeTo level)).atLimit p.other = ((c.switch p.other).level && !level)
      ∧ (c.setSwitch p (.changeTo level)).bothAsserted = (level && (c.switch p.other).level) := by
  cases p <;> cases level <;>
    simp [Valve.atLimit, Valve.bothAsserted, Valve.setSwitch, Valve.switch, Position.other, DebouncedLine.changeTo]

/-- A limit switch change that makes no fault: an arrival settles and confirms (R60), a STOPPED channel resolves (R64),
and any other change leaves the channel's state. It leaves a switch released (R62), and is not the release of a settled
channel's own switch (R63). -/
theorem Valve.switchChanged_of_not_both {c : Valve} {p : Position} {level : Bool} (hb : c.bothAsserted = false)
    (hs : c.state = settledAt p → level = true) :
    c.switchChanged p level =
      if level = true ∧ c.state = towards p then (c.settleAt p, .confirmation)
      else if c.state = .stopped ∧ c.atLimit .opened = true then ({ c with state := .opened }, .none)
      else if c.state = .stopped ∧ c.atLimit .closed = true then ({ c with state := .closed }, .none)
      else (c, .none) := by
  unfold Valve.switchChanged; rw [hb]
  cases hc : c.state with
  | opening | closing => simp
  | opened | closed =>
    have hl : (!level && decide (c.state = settledAt p)) = false := by
      rw [Bool.eq_false_iff]; intro hl
      simp only [Bool.and_eq_true, decide_eq_true_eq] at hl
      rw [hs hl.2] at hl; cases hl.1
    rw [hc] at hl
    cases p <;> simp_all [towards]
  | stopped => cases p <;> simp [towards]
  | fault cause => cases p <;> simp [towards]

/-- A settled channel whose own switch releases faults with cause LOST (R63). -/
theorem Valve.switchChanged_lost {c : Valve} {p : Position} (hb : c.bothAsserted = false) (hs : c.state = settledAt p) :
    c.switchChanged p false = (c.enterFault .lost, .fault) := by
  unfold Valve.switchChanged; rw [hb]
  cases p <;> simp [hs, settledAt]

/-- A second asserted switch faults the channel with cause SWITCHES; in FAULT it changes the cause alone (R62). -/
theorem Valve.switchChanged_both {c : Valve} (hb : c.bothAsserted = true) (p : Position) (level : Bool) :
    c.switchChanged p level = (c.enterFault .switches, if c.state.isFault then .none else .fault) := by
  unfold Valve.switchChanged; rw [hb]
  cases c.state.isFault <;> rfl

/-- A change of a settled channel's switches always faults it: its own releases, or the other asserts too (R62, R63). -/
theorem Valve.settled_switch_faults {c : Valve} {p q : Position} {level : Bool} (hat : c.atLimit q = true)
    (hl : level ≠ (c.switch p).level) (hb : (c.setSwitch p (.changeTo level)).bothAsserted = false) :
    q = p ∧ level = false := by
  obtain ⟨hown, hother⟩ : (c.switch q).level = true ∧ (c.switch q.other).level = false := by
    simpa [Valve.atLimit] using hat
  obtain rfl | rfl : q = p ∨ q = p.other := by cases p <;> cases q <;> decide
  · exact ⟨rfl, by simpa [hown] using hl⟩
  · rw [Position.other_other] at hother
    have hlevel : level = true := by simpa [hother] using hl
    rw [(c.atLimit_setSwitch p level).2.2, hlevel, hown] at hb
    cases hb

/-- A travelling channel arrives, or goes on (R60, R65). -/
theorem Valve.Lawful.switchChanged_travelling {c : Valve} (h : c.Lawful) {p q : Position} (hs : c.state = towards p)
    {level : Bool} (hb : (c.setSwitch q (.changeTo level)).bothAsserted = false) :
    ((c.setSwitch q (.changeTo level)).switchChanged q level).1.Lawful := by
  obtain ⟨htravel, hpause, hto⟩ := (Valve.wf_travelling hs).1 h.wf
  obtain ⟨hat, -, hboth⟩ := c.atLimit_setSwitch q level
  have hstate := (c.setSwitch_state q (.changeTo level)).trans hs
  have htarget := (c.setSwitch_target q (.changeTo level)).trans hto
  have hother : (level && (c.switch q.other).level) = false := hboth.symm.trans hb
  rw [Valve.switchChanged_of_not_both hb (by rw [hstate]; exact fun hx => absurd hx (towards_ne_settledAt _ _)),
    hstate]
  split
  next harrives =>
    obtain ⟨rfl, hpq⟩ := harrives
    obtain rfl := towards_inj.1 hpq
    rw [Bool.true_and] at hother
    exact Valve.lawful_settleAt (by rw [hat, hother]; rfl) htarget
  · have hn : towards p ≠ .stopped := by cases p <;> nofun
    rw [if_neg fun hx => hn hx.1, if_neg fun hx => hn hx.1]
    exact Valve.lawful_travelling hstate hb htarget ((Valve.setSwitch_travel _ _ _).symm ▸ htravel)
      ((Valve.setSwitch_pause _ _ _).symm ▸ hpause)

/-- A STOPPED channel resolves, or rests on as one in FAULT does (R64). -/
theorem Valve.Lawful.switchChanged_resting {c : Valve} (h : c.Lawful)
    (hs : c.state.isFault = true ∨ c.state = .stopped) {q : Position} {level : Bool}
    (hb : (c.setSwitch q (.changeTo level)).bothAsserted = false) :
    ((c.setSwitch q (.changeTo level)).switchChanged q level).1.Lawful := by
  obtain ⟨hto, htravel, hpause⟩ := (Valve.wf_resting hs).1 h.wf
  have htarget := (c.setSwitch_target q (.changeTo level)).trans hto
  have htravel := (c.setSwitch_travel q (.changeTo level)).trans htravel
  have hpause := (c.setSwitch_pause q (.changeTo level)).trans hpause
  rw [← c.setSwitch_state q (.changeTo level)] at hs
  generalize c.setSwitch q (.changeTo level) = c1 at *
  have hresolves : ∀ p, c1.atLimit p = true → ({ c1 with state := settledAt p } : Valve).Lawful := fun p hp =>
    Valve.lawful_settled (p := p) rfl hp (fun hx => by cases htarget.symm.trans hx) htravel hpause
  rw [Valve.switchChanged_of_not_both hb fun hx => absurd hx (ValveState.not_settled_of_rests hs q),
    if_neg fun hx => ValveState.not_towards_of_rests hs q hx.2]
  split
  next hx => exact hresolves .opened hx.2
  · split
    next hx => exact hresolves .closed hx.2
    · exact ⟨(Valve.wf_resting hs).2 ⟨htarget, htravel, hpause⟩, fun hx => by cases hb.symm.trans hx⟩

/-- A limit switch change leaves a lawful channel lawful (R60 to R65). -/
theorem Valve.Lawful.switchChanged {c : Valve} (h : c.Lawful) {p : Position} {level : Bool}
    (hl : level ≠ (c.switch p).level) :
    ((c.setSwitch p (.changeTo level)).switchChanged p level).1.Lawful := by
  cases hb : (c.setSwitch p (.changeTo level)).bothAsserted with
  | true => rw [Valve.switchChanged_both hb]; exact Valve.lawful_enterFault _ _
  | false =>
    rcases c.state.settled_or_travelling_or_rests with ⟨q, hs⟩ | ⟨q, hs⟩ | hs
    · obtain ⟨rfl, rfl⟩ := Valve.settled_switch_faults ((Valve.wf_settled hs).1 h.wf).1 hl hb
      rw [Valve.switchChanged_lost hb ((c.setSwitch_state _ _).trans hs)]
      exact Valve.lawful_enterFault _ _
    · exact h.switchChanged_travelling hs hb
    · exact h.switchChanged_resting hs hb

end Sys2Proof.Machine
end

section
/-! SUPPORT. Every command and every tick keeps the valve law (R53, R62): the operations that command the channels leave
lawful channels lawful outside STARTING, and in STARTING nothing commands them. -/

namespace Sys2Proof.Machine

/-! ### The valve law -/

def Valves.Lawful (x : Valves) : Prop := ∀ v, (x.get v).Lawful

/-- The valve law of a cycle state and the channels: lawful outside STARTING, and provisionally STOPPED in it. -/
structure ValveLawful (c : CycleState) (x : Valves) : Prop where
  running  : c ≠ .starting → x.Lawful
  starting : c = .starting → ∀ v, (x.get v).wf = true ∧ (x.get v).state = .stopped

/-- The valve law as a proposition. -/
def ValveOk (s : State) : Prop := ValveLawful s.cycle.state s.valves

theorem valveLaw_iff (s : State) : valveLaw s = true ↔ ValveOk s := by
  have hor : ∀ a b : Bool, ((!a || b) = true) ↔ (a = true → b = true) := by decide
  unfold valveLaw
  simp only [valves_all_iff, Bool.and_eq_true]
  by_cases hs : s.cycle.state = .starting
  · simp only [hs, if_true, decide_eq_true_eq]
    exact ⟨fun h => ⟨fun hn => absurd hs hn, fun _ => h⟩, fun h => h.starting hs⟩
  · simp only [hs, if_false, hor]
    exact ⟨fun h => ⟨fun _ v => ⟨(h v).1, (h v).2⟩, fun hn => absurd hn hs⟩,
      fun h v => ⟨(h.running hs v).wf, (h.running hs v).both⟩⟩

/-- `t` is outside STARTING, with lawful channels where those of `s` are. -/
structure KeepsLawful (s t : State) : Prop where
  running : t.cycle.state ≠ .starting
  lawful  : s.valves.Lawful → t.valves.Lawful

theorem KeepsLawful.of_valves {s t : State} (hc : t.cycle.state ≠ .starting) (hv : t.valves = s.valves) :
    KeepsLawful s t := ⟨hc, fun h => hv ▸ h⟩

theorem KeepsLawful.trans {s t u : State} (h : KeepsLawful s t) (k : KeepsLawful t u) : KeepsLawful s u :=
  ⟨k.running, k.lawful ∘ h.lawful⟩

theorem ValveOk.of_keepsLawful {s t : State} (h : ValveOk s) (hs : s.cycle.state ≠ .starting) (k : KeepsLawful s t) :
    ValveOk t := ⟨fun _ => k.lawful (ValveLawful.running h hs), fun hn => absurd hn k.running⟩

/-- What moves the cycle between states other than STARTING and leaves the channels. -/
theorem ValveOk.of_valves {s t : State} (h : ValveOk s) (hs : s.cycle.state ≠ .starting)
    (ht : t.cycle.state ≠ .starting) (hv : t.valves = s.valves) : ValveOk t :=
  h.of_keepsLawful hs (.of_valves ht hv)

theorem ValveOk.of_same {s t : State} (h : ValveOk s) (hc : t.cycle.state = s.cycle.state) (hv : t.valves = s.valves) :
    ValveOk t := by
  unfold ValveOk; rw [hc, hv]; exact h

/-! ### The cycle controller -/

theorem Valves.Lawful.command {x : Valves} (h : x.Lawful) (set : ValveSet) : (x.command set).Lawful := fun v => by
  rw [Valves.get_command]; exact (h v).command _

theorem Valves.Lawful.stop {x : Valves} (h : x.Lawful) : (x.map fun _ c => c.stop).Lawful := fun v => by
  rw [Valves.get_map]; exact (h v).stop

theorem Valves.Lawful.set {x : Valves} (h : x.Lawful) {v : ValveId} {d : Valve} (hd : d.Lawful) : (x.set v d).Lawful :=
  fun w => by
    rw [Valves.get_set]; split
    · exact hd
    · exact h w

theorem keepsLawful_enterState {new : CycleState} (h : new ≠ .starting) (s : State) : KeepsLawful s (enterState new s) :=
  .of_valves (by rwa [enterState_cycle]) (enterState_valves _ _)

/-- A set commanded outside STARTING (R57). -/
theorem keepsLawful_commandSet {s : State} (h : s.cycle.state ≠ .starting) (set : ValveSet) :
    KeepsLawful s (commandSet set s) :=
  ⟨by rw [commandSet_cycle]; exact h, fun hx => by rw [commandSet_valves]; exact hx.command set⟩

@[simp] theorem releaseAtLockout_valves (s : State) : (releaseAtLockout s).valves = s.valves := by
  unfold releaseAtLockout; split <;> rfl

theorem lockOut_valves (s : State) : (lockOut s).valves = s.valves.map fun _ c => c.stop := by
  unfold lockOut; simp only [releaseAtLockout_valves, State.setValves_valves, enterState_valves]
  split <;> rfl

theorem lockOut_state (s : State) : (lockOut s).cycle.state = .lockedOut := by
  unfold lockOut; simp

theorem keepsLawful_lockOut (s : State) : KeepsLawful s (lockOut s) :=
  ⟨by rw [lockOut_state]; nofun, fun h => by rw [lockOut_valves]; exact h.stop⟩

@[simp] theorem releaseFinished_valves (s : State) : (releaseFinished s).valves = s.valves := rfl

/-- RECOVERING ends in IN_SERVICE or WAITING with the channels as they are (R24). -/
theorem recoveringSettled_keeps (s : State) :
    (recoveringSettled s).cycle = cycleIn (if s.cycle.due = .none then .inService else .waiting) s.cycle
      ∧ (recoveringSettled s).valves = s.valves := by
  unfold recoveringSettled
  generalize (if s.cycle.due = .none then CycleState.inService else .waiting) = new
  simp only
  split <;> simp

/-- The settlement of a set leaves the channels (R2). -/
theorem onSettled_valves (s : State) : (onSettled s).valves = s.valves := by
  unfold onSettled; split
  · exact completeWash_valves _ s
  · exact (recoveringSettled_keeps s).2
  · exact enterState_valves _ s
  · rfl

theorem onSettled_not_starting {s : State} (h : s.cycle.state ≠ .starting) : (onSettled s).cycle.state ≠ .starting := by
  unfold onSettled; split
  · rw [completeWash_state]; split <;> nofun
  · rw [(recoveringSettled_keeps s).1, cycleIn_state]; split <;> nofun
  · rw [enterState_cycle]; nofun
  · exact h

theorem keepsLawful_onSettled {s : State} (h : s.cycle.state ≠ .starting) : KeepsLawful s (onSettled s) :=
  .of_valves (onSettled_not_starting h) (onSettled_valves s)

theorem keepsLawful_enterCommanding {new : CycleState} (h : new ≠ .starting) (set : ValveSet) (s : State) :
    KeepsLawful s (enterCommanding new set s) := by
  have henter := keepsLawful_enterState h s
  have hset := henter.trans (keepsLawful_commandSet henter.running set)
  unfold enterCommanding; simp only
  split
  · exact hset.trans (keepsLawful_lockOut _)
  · split
    · exact hset.trans (keepsLawful_onSettled hset.running)
    · exact hset

theorem keepsLawful_enterRecovering (s : State) : KeepsLawful s (enterRecovering s) :=
  keepsLawful_enterCommanding (new := .recovering) nofun serviceSet s

theorem keepsLawful_cutShort (o : WashOutcome) (s : State) : KeepsLawful s (cutShort o s) := by
  rw [cutShort_eq]
  obtain ⟨hr, hl⟩ := keepsLawful_enterCommanding (new := .returning) nofun serviceSet (cutShortAs o s)
  exact ⟨hr, hl⟩

theorem keepsLawful_enterStep {step : CycleState} (h : step.washStep = true) (s : State) :
    KeepsLawful s (enterStep step s) := by
  have henter := keepsLawful_enterState (new := step) (by rintro rfl; cases h) s
  have hset := henter.trans (keepsLawful_commandSet henter.running (stepSet step))
  unfold enterStep; simp only
  split
  · exact hset.trans (keepsLawful_cutShort _ _)
  · exact hset

theorem keepsLawful_endBackwash (o : WashOutcome) (s : State) : KeepsLawful s (endBackwash o s) := by
  rw [endBackwash_eq]
  obtain ⟨hr, hl⟩ := keepsLawful_enterStep (step := .settle) rfl (cutShortAs o s)
  exact ⟨hr, hl⟩

theorem keepsLawful_valveFault {s : State} (h : s.cycle.state ≠ .starting) : KeepsLawful s (valveFault s) := by
  have hsame : KeepsLawful s s := .of_valves h rfl
  have hcontest : KeepsLawful s (endContestAtFault s) := by
    unfold endContestAtFault; split
    · exact .of_valves h rfl
    · exact hsame
  unfold valveFault
  cases hs : s.cycle.state with
  | starting => exact absurd hs h
  | lockedOut => exact hsame
  | inService | waiting => exact keepsLawful_enterRecovering s
  | contest => exact hcontest.trans (keepsLawful_enterRecovering _)
  | drainDown | airScour | backwash | settle | rinse => exact keepsLawful_cutShort _ s
  | recovering | returning | isolating | isolated => exact keepsLawful_lockOut s

theorem keepsLawful_valveConfirmed {s : State} (h : s.cycle.state ≠ .starting) (v : ValveId) :
    KeepsLawful s (valveConfirmed v s) := by
  have hmarked : KeepsLawful s (s.setCycle { s.cycle with confirmed := s.cycle.confirmed.mark v }) := .of_valves h rfl
  unfold valveConfirmed; simp only
  split
  · exact hmarked.trans (keepsLawful_onSettled hmarked.running)
  · exact hmarked

/-- A channel's own event outside STARTING, the channel being lawful after it. -/
theorem keepsLawful_channelEvent {s : State} (h : s.cycle.state ≠ .starting) (v : ValveId) {x : Valve × Report}
    (hx : x.1.Lawful) : KeepsLawful s (channelEvent v x s) := by
  have hchanged : KeepsLawful s (channelChanged v x.1 s) :=
    ⟨by rw [channelChanged_cycle]; exact h, fun hv => by rw [channelChanged_valves]; exact hv.set hx⟩
  obtain ⟨d, report⟩ := x
  cases report with
  | none => rw [channelEvent_none]; exact hchanged
  | confirmation =>
    rw [channelEvent_confirmation]; exact hchanged.trans (keepsLawful_valveConfirmed hchanged.running v)
  | fault => rw [channelEvent_fault]; exact hchanged.trans (keepsLawful_valveFault hchanged.running)

/-! ### The contest and the due reasons -/

theorem keepsLawful_tryContest {s : State} (h : s.cycle.state ≠ .starting) : KeepsLawful s (tryContest s) :=
  .of_valves (tryContest_not_starting h) (keepsPlant_tryContest s).valves

theorem keepsLawful_loseContest (counted : Bool) (s : State) : KeepsLawful s (loseContest counted s) :=
  .of_valves (by rw [loseContest_cycle]; nofun) (by
    unfold loseContest; simp only [enterState_valves]; split <;> rfl)

theorem keepsLawful_takeOverlap {s : State} (h : s.cycle.state ≠ .starting) (e : PeerEntry) :
    KeepsLawful s (takeOverlap e s) := by
  have hcounted : KeepsLawful s (s.setArb { s.arb with overlaps := satInc s.arb.overlaps }) := .of_valves h rfl
  unfold takeOverlap; simp only
  split
  · exact hcounted.trans (keepsLawful_cutShort _ _)
  · exact hcounted

theorem valveOk_changeReport {s : State} (h : ValveOk s) (e : Option PeerEntry) : ValveOk (changeReport e s) := by
  by_cases hs : s.cycle.state = .starting
  · rw [changeReport_of_starting hs]; exact h
  refine h.of_keepsLawful hs ?_
  have hsame : KeepsLawful s s := .of_valves hs rfl
  unfold changeReport
  split
  · split
    · exact hsame
    · exact keepsLawful_loseContest _ s
  · split
    · split
      · exact hsame
      · split
        · exact hsame
        · exact keepsLawful_takeOverlap hs _
    · exact keepsLawful_tryContest hs

theorem valveOk_endContestUncounted {s : State} (h : ValveOk s) : ValveOk (endContestUncounted s) := by
  unfold endContestUncounted; split
  next hc =>
    exact h.of_keepsLawful (by rw [inContest_state hc]; nofun) (keepsLawful_loseContest _ s)
  · exact h

theorem valveOk_cutShort {s : State} (h : ValveOk s) (hs : s.cycle.state.washStep = true) (o : WashOutcome) :
    ValveOk (cutShort o s) :=
  h.of_keepsLawful (by rintro hn; rw [hn] at hs; cases hs) (keepsLawful_cutShort o s)

theorem valveOk_linkOffReport {s : State} (h : ValveOk s) : ValveOk (linkOffReport s) := by
  unfold linkOffReport
  split
  next hs => exact valveOk_cutShort h hs _
  · split
    next hs =>
      refine h.of_valves (by rw [hs]; nofun) (by rw [enterState_cycle]; nofun) ?_
      rw [enterState_valves]; split <;> rfl
    · exact h

theorem valveOk_operatorWash {s : State} (h : ValveOk s) : ValveOk (operatorWash s) := by
  unfold operatorWash; split
  next hs =>
    exact h.of_valves (by rw [hs]; nofun) (by rw [raiseDue, enterState_cycle]; nofun)
      (by rw [raiseDue, enterState_valves]; rfl)
  · exact h
  · exact h
  · exact h

/-- A second tick moves the cycle out of STARTING nowhere, and leaves the channels (R47). -/
theorem valveOk_secondWork {s : State} (h : ValveOk s) : ValveOk (secondWork s) := by
  have hscan : ValveOk (scannerSecond s) := h
  have hwork : ValveOk (tryContest (cycleSecond (scannerSecond s))) := by
    by_cases hs : s.cycle.state = .starting
    · have hcycle : cycleSecond (scannerSecond s) = scannerSecond s := cycleSecond_not_filtering (by
        show s.cycle.state.filtering = false; rw [hs]; rfl)
      rw [hcycle, tryContest_eq_self (by show s.cycle.state ≠ .waiting; rw [hs]; nofun)]
      exact hscan
    · have hcycle := cycleSecond_not_starting (s := scannerSecond s) hs
      exact hscan.of_valves hs (tryContest_not_starting hcycle)
        ((keepsPlant_tryContest _).valves.trans (cycleSecond_valves _))
  exact hwork.of_same (by rw [secondWork, dosingSecond_cycle]) (dosingSecond_valves _)

/-! ### The bodies of the events -/

theorem valveOk_event {b : Bool} {body : State → State} {s t : State} (h : ValveOk s) (hb : ValveOk (body s))
    (he : event b body s = .next t) : ValveOk t := by
  rcases event_cases he with ⟨-, rfl⟩ | ⟨-, rfl⟩
  · exact h
  · rw [finish_eq]; exact hb

theorem valveOk_secondAt {happens : Bool} {s t : State} (h : ValveOk s) (he : secondAt happens s = .next t) :
    ValveOk t := by
  rcases secondAt_cases happens s with hc | hc <;> rw [hc] at he
  · exact valveOk_event h (valveOk_secondWork h) he
  · cases he; exact h

theorem valveOk_whenDue {due : Bool} {effect : State → State} {s : State} (h : ValveOk s)
    (he : due = true → ValveOk (effect s)) : ValveOk (whenDue due effect s) := by
  unfold whenDue; split
  next hd => exact he hd
  · exact h

theorem valveOk_resetStation (k : ResetKind) (s : State) : ValveOk (resetStation k s) :=
  (valveLaw_iff _).1 (valveLaw_resetStation k s)

theorem valveOk_settleLoad {s : State} (h : ValveOk s) (acks : Bool) (block : List Byte) :
    ValveOk (settleLoad acks block s) := by
  unfold settleLoad; split <;> exact h

/-- The start survey makes every channel lawful, wherever its switches stand (R55). -/
theorem valveOk_endStarting {s : State} (h : ValveOk s) : ValveOk (endStarting s) := by
  cases hover : startingOver s with
  | false => unfold endStarting; rw [hover]; exact h
  | true =>
    rw [endStarting_eq hover]
    have hk := keepsLawful_enterRecovering (surveyed s)
    have hsurvey : (surveyed s).valves.Lawful := fun v => by
      show ((s.valves.map fun _ c => c.survey).get v).Lawful
      rw [Valves.get_map]; exact Valve.lawful_survey _
    exact ⟨fun _ => hk.lawful hsurvey, fun hs => absurd hs hk.running⟩

theorem valveOk_takeConversion {s : State} (h : ValveOk s) (ch : ChannelId) (count : BitVec 12) :
    ValveOk (takeConversion ch count s) := by
  have hjudge : ∀ (c : Cycle) r level, (c.judgeClear r level).state = c.state := by
    intro c r level; unfold Cycle.judgeClear
    split
    · split <;> rfl
    · rfl
  have hafter : ∀ u : State, ValveOk u → ValveOk (afterConversion ch u) := by
    intro u hu
    unfold afterConversion; split
    · split <;> exact hu
    · exact hu.of_same (hjudge _ _ _) rfl
    all_goals exact hu
  unfold takeConversion; simp only
  split
  · exact hafter _ h
  · exact h

/-- A channel that travels is none of STARTING (R53). -/
theorem ValveOk.not_starting {s : State} (h : ValveOk s) {v : ValveId} (hv : (s.valves.get v).state.travelling = true) :
    s.cycle.state ≠ .starting := by
  intro hs
  rw [(ValveLawful.starting h hs v).2] at hv; cases hv

/-- A channel's own event outside STARTING. -/
theorem valveOk_channelEvent {s : State} (h : ValveOk s) (hs : s.cycle.state ≠ .starting) (v : ValveId)
    {x : Valve × Report} (hx : x.1.Lawful) : ValveOk (channelEvent v x s) :=
  h.of_keepsLawful hs (keepsLawful_channelEvent hs v hx)

/-- The levels of a STOPPED channel are no part of its record (R54). -/
theorem Valve.wf_setSwitch_stopped {c : Valve} (h : c.state = .stopped) (p : Position) (l : DebouncedLine) :
    (c.setSwitch p l).wf = c.wf := by
  unfold Valve.wf; simp [h]

/-- A pin that comes back to the level its switch has changes no level (R54). -/
theorem Valve.wf_setSwitch_stay (c : Valve) (p : Position) :
    (c.setSwitch p (c.switch p).stay).wf = c.wf
      ∧ (c.setSwitch p (c.switch p).stay).bothAsserted = c.bothAsserted := by
  have hat : ∀ q, (c.setSwitch p (c.switch p).stay).atLimit q = c.atLimit q := fun q => by
    cases p <;> cases q <;> rfl
  refine ⟨?_, by cases p <;> rfl⟩
  unfold Valve.wf; simp only [Valve.setSwitch_state, Valve.setSwitch_target, Valve.setSwitch_travel,
    Valve.setSwitch_pause, hat]

/-- One channel's switch takes a line, nothing else of the station being changed. -/
theorem ValveOk.setSwitch {s : State} (h : ValveOk s) {v : ValveId} {p : Position} {l : DebouncedLine}
    (hrunning : s.cycle.state ≠ .starting → ((s.valves.get v).setSwitch p l).Lawful)
    (hstarting : s.cycle.state = .starting → ((s.valves.get v).setSwitch p l).wf = true) :
    ValveOk (s.setValves (s.valves.set v ((s.valves.get v).setSwitch p l))) where
  running hs := (ValveLawful.running h hs).set (hrunning hs)
  starting hs w := by
    rw [State.setValves_valves, Valves.get_set]
    split
    · exact ⟨hstarting hs, (Valve.setSwitch_state _ _ _).trans (ValveLawful.starting h hs v).2⟩
    · exact ValveLawful.starting h hs w

theorem valveOk_takeSwitch {s : State} (h : ValveOk s) (v : ValveId) (p : Position) (level : Bool) :
    ValveOk (takeSwitch v p level s) := by
  unfold takeSwitch; simp only
  split
  · obtain ⟨hwf, hboth⟩ := (s.valves.get v).wf_setSwitch_stay p
    refine h.setSwitch (fun hs => ?_) fun hs => hwf.trans (ValveLawful.starting h hs v).1
    have hv := ValveLawful.running h hs v
    exact ⟨hwf.trans hv.wf, fun hb => by rw [Valve.setSwitch_state]; exact hv.both (hboth.symm.trans hb)⟩
  next hl =>
    split
    next hs =>
      have hv := ValveLawful.starting h hs v
      exact h.setSwitch (fun hn => absurd hs hn) fun _ => (Valve.wf_setSwitch_stopped hv.2 _ _).trans hv.1
    next hs => exact valveOk_channelEvent h hs v ((ValveLawful.running h hs v).switchChanged hl)

theorem valveOk_pauseEnd {s : State} (h : ValveOk s) (v : ValveId) :
    ValveOk (whenDue (s.valves.get v).pauseEnds (pauseEnd v) s) :=
  valveOk_whenDue h fun hd => by
    simp only [Valve.pauseEnds, Bool.and_eq_true] at hd
    have hs := h.not_starting hd.1
    exact valveOk_channelEvent h hs v (ValveLawful.running h hs v).endPause

theorem valveOk_travelTimesOut {s : State} (h : ValveOk s) (v : ValveId) :
    ValveOk (whenDue ((s.valves.get v).timedOut s.cfg.travelTimeout) (travelTimesOut v) s) :=
  valveOk_whenDue h fun hd => by
    simp only [Valve.timedOut, Bool.and_eq_true] at hd
    have hs := h.not_starting (Valve.travelling_of_driven hd.1)
    exact valveOk_channelEvent h hs v (Valve.lawful_enterFault _ _)

theorem valveOk_risingEdge {s : State} (h : ValveOk s) (i : DiscreteInput) : ValveOk (risingEdge i s) := by
  cases i with
  | manualWash =>
    simp only [risingEdge, pressManualWash]; split
    · exact h
    · exact valveOk_operatorWash h
  | inhibitKey =>
    simp only [risingEdge, keyAsserts]; split
    · exact h
    · exact valveOk_endContestUncounted h
  | tankLow =>
    simp only [risingEdge, tankRunsLow]; split
    next hs => exact valveOk_cutShort h hs _
    · exact valveOk_endContestUncounted h
  | flowOk | doseFb => exact h

theorem valveOk_takeInput {s : State} (h : ValveOk s) (i : DiscreteInput) (level : Bool) :
    ValveOk (takeInput i level s) := by
  unfold takeInput; simp only
  split
  · exact h
  · split
    · exact valveOk_risingEdge (s := s.setInputs (s.inputs.set i (.changeTo level))) h i
    · exact h

/-- The end of a wash step's time is none of STARTING. -/
theorem valveOk_of_stepDone {s : State} (h : ValveOk s) {step : CycleState} {seconds : Nat} {effect : State → State}
    (hw : step.washStep = true) (he : KeepsLawful s (effect s)) :
    ValveOk (whenDue (stepDone step seconds s) effect s) :=
  valveOk_whenDue h fun hd => h.of_keepsLawful (by
    rw [((stepDone_iff _ _ _).1 hd).1]; rintro rfl; cases hw) he

theorem valveOk_endBackwash {s : State} (h : ValveOk s) (hs : s.cycle.state = .backwash) (o : WashOutcome) :
    ValveOk (endBackwash o s) := h.of_keepsLawful (by rw [hs]; nofun) (keepsLawful_endBackwash o s)

theorem valveOk_backwashOver {s : State} (h : ValveOk s) : ValveOk (backwashOver s) := by
  unfold backwashOver; split
  next hc => exact valveOk_endBackwash h (backwashClear_state hc) _
  · exact valveOk_of_stepDone h rfl (keepsLawful_endBackwash _ s)

/-! ### What arrives -/

theorem ValveOk.of_reports {s t : State} (h : ValveOk s) (k : Reports s t) : ValveOk t := by
  obtain ⟨u, hu, ht⟩ := k
  have hv : ValveOk u := h.of_same (congrArg Cycle.state hu.cycle) hu.valves
  rcases ht with rfl | ⟨e, rfl⟩
  · exact hv
  · exact valveOk_changeReport hv e

/-- ABANDON_WASH is taken in WAITING, CONTEST and the wash steps (R12, R144). -/
theorem valveOk_abandonWash {s : State} (h : ValveOk s) (ht : takenInState .abandonWash s = true) :
    ValveOk (abandonWash s) := by
  have hs : s.cycle.state ≠ .starting := by rintro hs; simp [takenInState, hs, CycleState.washStep] at ht
  unfold abandonWash; simp only
  split
  · exact h.of_keepsLawful hs (keepsLawful_cutShort _ s)
  · refine h.of_valves hs (by rw [enterState_cycle]; nofun) ?_
    rw [enterState_valves]
    show (if _ then withdraw s else s).valves = s.valves
    split <;> rfl

theorem valveOk_carryOut {s : State} (h : ValveOk s) {rc : RequestCode} (ht : takenInState rc s = true) :
    ValveOk (carryOut rc s) := by
  cases rc with
  | washNow => exact valveOk_operatorWash h
  | abandonWash => exact valveOk_abandonWash h ht
  | inhibitSet =>
    simp only [carryOut, setInhibit]; split
    · exact h
    · exact valveOk_endContestUncounted (s := s.setReq { s.req with inhibitFlag := true }) h
  | isolate =>
    have hs : s.cycle.state ≠ .starting := by rintro hs; simp [takenInState, hs] at ht
    obtain ⟨hr, hl⟩ := keepsLawful_enterCommanding (new := .isolating) nofun allClosedSet (clearDue s)
    exact h.of_keepsLawful hs ⟨hr, hl⟩
  | returnToService =>
    have hs : s.cycle.state ≠ .starting := by rintro hs; simp [takenInState, hs] at ht
    exact h.of_keepsLawful hs (keepsLawful_enterRecovering s)
  | clearCounters => exact h
  | inhibitClear | doseReset | readCounters | readWashRecord | restart | clearResetCause => exact h

theorem valveOk_takeRequest {s : State} (h : ValveOk s) {rc : RequestCode} {arg : Nat}
    (hj : judgeRequest rc arg s = .taken) (panel : Nat) : ValveOk (takeRequest panel rc arg s) := by
  unfold takeRequest; simp only
  split
  · exact valveOk_resetStation _ _
  · exact valveOk_carryOut h (takenInState_of_taken hj)

/-- A frame that arrives, whatever it is (R130). -/
theorem valveOk_receive {s : State} (h : ValveOk s) (f : RxFrame) : ValveOk (receive f s) := by
  have hheard : ValveOk (heard s) := h
  rcases received_receive f s with hr | ⟨panel, rc, arg, hj, hr⟩
  · exact hheard.of_reports hr
  · rw [hr]; exact valveOk_takeRequest hheard hj panel

/-! ### The link and the arbiter's timers -/

theorem valveOk_failAttempt {s : State} (h : ValveOk s) : ValveOk (failAttempt s) := by
  unfold failAttempt; simp only
  split
  · split
    · exact valveOk_resetStation _ _
    · exact valveOk_linkOffReport (s := s.setLink s.link.fail) h
  · exact h

theorem valveOk_signalError {s : State} (h : ValveOk s) : ValveOk (signalError s) := by
  unfold signalError; split
  · exact h
  · exact valveOk_failAttempt h
  · exact valveOk_failAttempt h

theorem valveOk_completeTx {s : State} (h : ValveOk s) : ValveOk (completeTx s) := by
  unfold completeTx; split
  · exact h
  · unfold reportCompletion windowStarts; split
    · split
      · split <;> exact h
      all_goals exact h
    · split
      · exact valveOk_resetStation _ _
      · exact h
    all_goals exact h

theorem valveOk_windowExpires {s : State} (h : ValveOk s) : ValveOk (windowExpires s) := by
  unfold windowExpires; split
  next u _ =>
    split
    next hc =>
      simp only [Bool.and_eq_true, decide_eq_true_eq] at hc
      obtain ⟨hr, hl⟩ := keepsLawful_enterStep (step := .drainDown) rfl (clearOutcome (takeHold u s))
      exact h.of_keepsLawful (by rw [hc.1.1]; nofun) ⟨hr, hl⟩
    · exact h
  all_goals exact h

theorem valveOk_refreshHold {s : State} (h : ValveOk s) : ValveOk (refreshHold s) := by
  unfold refreshHold; split
  · split <;> exact h
  all_goals exact h

/-! ### The step -/

/-- Every command keeps the valve law. -/
theorem valveOk_exec {c : Instr} {s t : State} (h : ValveOk s) (he : exec c s = .next t) : ValveOk t := by
  cases c with
  | powerReset straps | supplyFallsBelowOperatingRange => cases he; exact valveOk_resetStation _ _
  | lineReset straps =>
    simp only [exec, execLineReset] at he; cases he
    split
    · exact valveOk_resetStation _ _
    · exact h
  | configurationLoadSettles a b r block => exact valveOk_event h (valveOk_settleLoad h _ _) he
  | startingEnd => exact valveOk_event h (valveOk_endStarting h) he
  | secondTick => exact valveOk_event h (valveOk_secondWork h) he
  | loadingHoldReached | breakthroughHoldReached | waitMinute | readingPeriod => exact valveOk_secondAt h he
  | conversion ch count => exact valveOk_event h (valveOk_takeConversion h ch count) he
  | clearHoldReached =>
    exact valveOk_event h (valveOk_whenDue h fun hd => valveOk_endBackwash h (backwashClear_state hd) _) he
  | drainDownEnd =>
    refine valveOk_event h (valveOk_of_stepDone (effect := endDrainDown) h rfl (keepsLawful_enterStep ?_ s)) he
    split <;> rfl
  | airScourEnd | settleEnd => exact valveOk_event h (valveOk_of_stepDone h rfl (keepsLawful_enterStep rfl s)) he
  | backwashEnd => exact valveOk_event h (valveOk_backwashOver h) he
  | rinseEnd =>
    refine valveOk_event h (valveOk_of_stepDone (effect := enterReturning) h rfl ?_) he
    exact keepsLawful_enterCommanding (new := .returning) nofun serviceSet s
  | limitSwitchChange v p level => exact valveOk_event h (valveOk_takeSwitch h v p level) he
  | reversalPauseEnd v => exact valveOk_event h (valveOk_pauseEnd h v) he
  | travelTimeout v => exact valveOk_event h (valveOk_travelTimesOut h v) he
  | manualWashEdge | inhibitKeyChange _ | tankLowAssert | doseFbEdge | debouncedInputChange _ _ =>
    exact valveOk_event h (valveOk_takeInput h _ _) he
  | claimIntentArrival _ _ _ | claimHoldArrival _ _ _ | claimReleaseArrival _ _ _ | statusArrival _ _ _
  | readingArrival _ _ _ | answerArrival _ | washNow _ _ _ _ | abandonWash _ _ _ _ | inhibitSet _ _ _ _
  | inhibitClear _ _ _ _ | isolate _ _ _ _ | returnToService _ _ _ _ | doseReset _ _ _ _ | readCounters _ _ _ _
  | clearCounters _ _ _ _ | readWashRecord _ _ _ _ | restart _ _ _ _ | clearResetCause _ _ _ _
  | unknownRequest _ _ _ _ _ => exact valveOk_event h (valveOk_receive h _) he
  | rxSignalError => exact valveOk_event h (valveOk_signalError h) he
  | statusLapse p => exact valveOk_event h (h.of_reports (reports_lapseStatus _ _)) he
  | intentLapse p => exact valveOk_event h (h.of_reports (reports_lapseIntent _ _)) he
  | holdLapse p => exact valveOk_event h (h.of_reports (reports_lapseHold _ _)) he
  | contestWindowExpiry => exact valveOk_event h (valveOk_windowExpires h) he
  | holdRefresh => exact valveOk_event h (valveOk_refreshHold h) he
  | txFailure => exact valveOk_event h (valveOk_whenDue h fun _ => valveOk_failAttempt h) he
  | txCompletion => exact valveOk_event h (valveOk_completeTx h) he
  | txAttemptStart => exact valveOk_event (body := fun s => s.setLink s.link.startAttempt) h h he
  | lossOfTheMedium => exact valveOk_event (body := fun s => s.setLink s.link.loseMedium) h h he
  | readingStale | backoffEnd | offPeriodEnd | connectedLapse | stroke | pulseEnd | feedbackMiss =>
    exact valveOk_event h (valveOk_whenDue h fun _ => h) he

theorem valveOk_tick {s : State} (h : ValveOk s) : ValveOk (tick s) := by
  have hcycle : s.cycle.countTick.state = s.cycle.state := by unfold Cycle.countTick; split <;> rfl
  have hcounted : ValveLawful s.cycle.countTick.state (s.valves.map fun _ c => c.tick) := by
    rw [hcycle]
    constructor
    · intro hs v
      rw [Valves.get_map]; exact (ValveLawful.running h hs v).tick
    · intro hs v
      obtain ⟨hwf, hstate⟩ := ValveLawful.starting h hs v
      rw [Valves.get_map]; exact ⟨Valve.wf_tick_resting (.inr hstate) hwf, (Valve.tick_state _).1.trans hstate⟩
  unfold tick; split
  · exact hcounted
  · exact h

/-- Settles O58: the valve law is inductive by itself: what commands the channels is taken outside STARTING alone. -/
theorem everyStepKeepsTheValveLaw : Obligations.EveryStepKeepsTheValveLaw := by
  intro s t h hst
  rw [valveLaw_iff] at h ⊢
  unfold step at hst
  split at hst
  · cases hst; exact valveOk_tick h
  next c rest _ => exact valveOk_exec (s := s.setPending rest) h hst

end Sys2Proof.Machine
end

section
/-! SUPPORT. A limit switch change without a fault (R54, R60, R64) and the end of a reversal pause (R58): the channel's
part, its confirmation, and the settlement of the set where it is the last (R2, R22, R24, R25, R104). -/

namespace Sys2Proof.Machine

/-! ### A confirmation -/

/-- `s` with channel `v` confirmed (R2). -/
def confirmedBy (v : ValveId) (s : State) : State :=
  s.setCycle { s.cycle with confirmed := s.cycle.confirmed.mark v }

theorem settled_eq_false {v : ValveId} {s : State} (hv : s.cycle.confirmed.get v = false) : s.settled = false := by
  rw [Bool.eq_false_iff]; intro h
  rw [(ValveFlags.all_iff _).1 h v] at hv; cases hv

/-- The last channel of a set settles it. -/
theorem confirmedBy_settled {v : ValveId} {s : State}
    (hothers : ∀ other, other ≠ v → s.cycle.confirmed.get other = true) : (confirmedBy v s).settled = true :=
  (ValveFlags.all_iff _).2 fun w => by
    show (s.cycle.confirmed.mark v).get w = true
    rw [ValveFlags.get_mark]
    by_cases hw : w = v
    · simp [hw]
    · simp [hothers w hw]

theorem valveConfirmed_settles {v : ValveId} {s : State} (hv : s.cycle.confirmed.get v = false)
    (hothers : ∀ other, other ≠ v → s.cycle.confirmed.get other = true) :
    valveConfirmed v s = onSettled (confirmedBy v s) :=
  if_pos (by rw [settled_eq_false hv]; exact confirmedBy_settled hothers)

/-- A channel that is not the last of its set confirms alone. -/
theorem valveConfirmed_alone {v : ValveId} {s : State}
    (hother : ∃ other, other ≠ v ∧ s.cycle.confirmed.get other = false) : valveConfirmed v s = confirmedBy v s := by
  obtain ⟨w, hw, hf⟩ := hother
  have hset : (confirmedBy v s).settled = false :=
    settled_eq_false (v := w) (show (s.cycle.confirmed.mark v).get w = false by
      rw [ValveFlags.get_mark, hf]; simp [hw])
  exact if_neg (by rw [Bool.and_eq_true]; rintro ⟨-, h⟩; cases hset.symm.trans h)

theorem valveConfirmed_valves (v : ValveId) (s : State) : (valveConfirmed v s).valves = s.valves := by
  unfold valveConfirmed; simp only
  split
  · exact onSettled_valves _
  · rfl

/-- The settlement of a set leaves the confirmations (R2). -/
theorem onSettled_confirmed (s : State) : (onSettled s).cycle.confirmed = s.cycle.confirmed := by
  unfold onSettled; split
  · unfold completeWash; simp only [clearRunSeconds_eq]
    cases s.cycle.outcome.getD .abandoned <;>
      simp [WashOutcome.retained, WashOutcome.clean, clearOutcome, cleanBedSignal, clearDue, addRecord, cycleIn]
  · rw [(recoveringSettled_keeps s).1]; rfl
  · rw [enterState_cycle]; rfl
  · rfl

theorem valveConfirmed_confirmed (v : ValveId) (s : State) : (valveConfirmed v s).cycle.confirmed.get v = true := by
  have hmark : (s.cycle.confirmed.mark v).get v = true := by rw [ValveFlags.get_mark]; simp
  unfold valveConfirmed; simp only
  split
  · rw [onSettled_confirmed]; exact hmark
  · exact hmark

/-! ### The channel's part -/

/-- A channel's event without a fault changes of the channels its own alone. -/
theorem channelEvent_valves {x : Valve × Report} (h : x.2 ≠ .fault) (v : ValveId) (s : State) :
    (channelEvent v x s).valves = s.valves.set v x.1 := by
  obtain ⟨d, report⟩ := x
  cases report with
  | none => rw [channelEvent_none, channelChanged_valves]
  | confirmation => rw [channelEvent_confirmation, valveConfirmed_valves, channelChanged_valves]
  | fault => exact absurd rfl h

/-- No waste valve's report comes of an arrival outside LOCKED_OUT (R67, R104). -/
theorem channelEvent_arrives {v : ValveId} {p : Position} {c : Valve} {s : State}
    (hstate : (s.valves.get v).state = towards p) (hl : s.cycle.state ≠ .lockedOut) :
    channelEvent v (c.settleAt p, .confirmation) s = valveConfirmed v (s.setValves (s.valves.set v (c.settleAt p))) := by
  have hsame : channelChanged v (c.settleAt p) s = s.setValves (s.valves.set v (c.settleAt p)) :=
    wasteReport_eq_self hl (.inr fun _ h => absurd (hstate.symm.trans h) (towards_ne_settledAt p .closed))
  rw [channelEvent_confirmation, hsame]

theorem channelEvent_arrives_last {v : ValveId} {p : Position} {c : Valve} {s : State}
    (hstate : (s.valves.get v).state = towards p) (hl : s.cycle.state ≠ .lockedOut)
    (hv : s.cycle.confirmed.get v = false) (hothers : ∀ other, other ≠ v → s.cycle.confirmed.get other = true) :
    channelEvent v (c.settleAt p, .confirmation) s = onSettled (settledBy v p c s) := by
  rw [channelEvent_arrives hstate hl]
  exact valveConfirmed_settles (s := s.setValves (s.valves.set v (c.settleAt p))) hv hothers

theorem channelEvent_arrives_alone {v : ValveId} {p : Position} {c : Valve} {s : State}
    (hstate : (s.valves.get v).state = towards p) (hl : s.cycle.state ≠ .lockedOut)
    (hother : ∃ other, other ≠ v ∧ s.cycle.confirmed.get other = false) :
    channelEvent v (c.settleAt p, .confirmation) s = settledBy v p c s := by
  rw [channelEvent_arrives hstate hl]
  exact valveConfirmed_alone (s := s.setValves (s.valves.set v (c.settleAt p))) hother

/-! ### The settlement of the set -/

/-- Out of RECOVERING the cycle, the claim and its release change alone (R24, R104). -/
theorem recoveringSettled_of_recovering {m : State} (h : m.cycle.state = .recovering) :
    recoveringSettled m =
      { m with
        cycle := cycleIn (if m.cycle.due = .none then .inService else .waiting) m.cycle
        arb := if m.arb.claim.isHold = true then { m.arb with claim := .none, refreshTimer := 0 } else m.arb
        link := if m.arb.claim.isHold = true then releasedLink m m.link else m.link } := by
  have henter := enterState_of_not_filtering (s := m) (by rw [h]; rfl)
  unfold recoveringSettled; simp only [henter, State.setCycle_arb]
  split <;> rfl

/-- A wash step whose set settles goes on: its step timer counts from there (R2). -/
theorem onSettled_of_washStep {s : State} (h : s.cycle.state.washStep = true) : onSettled s = s := by
  unfold onSettled
  split
  next hs => rw [hs] at h; cases h
  next hs => rw [hs] at h; cases h
  next hs => rw [hs] at h; cases h
  · rfl

/-- What the settlement of the set brings in each state that has one but RETURNING, the event's body being that
settlement in `m` (R2, R24, R25). -/
theorem completes_settled {cmd : Instr} {body : State → State} {s m : State} (hs : s.supplyOk = true)
    (he : exec cmd s = event false body s) (hm : m.cycle.state = s.cycle.state)
    (hbody : s.cycle.state ≠ .starting → s.cycle.state ≠ .lockedOut → body s = onSettled m) :
    (s.cycle.state = .recovering → completes cmd s (recoveryOver m))
    ∧ (s.cycle.state = .isolating → completes cmd s (isolationReached m))
    ∧ (s.cycle.state.washStep = true → exec cmd s = .next (m.setLink m.link.take)) := by
  refine ⟨fun hst => ?_, fun hst => ?_, fun hst => ?_⟩
  · have hmst : m.cycle.state = .recovering := hm.trans hst
    have hend : body s = recoveringSettled m := by
      rw [hbody (by rw [hst]; nofun) (by rw [hst]; nofun), onSettled, hmst]
    rw [recoveringSettled_of_recovering hmst] at hend
    refine completes_change hs he hend ?_ ?_ fun t ht => ht
    · show (if m.cycle.due = .none then CycleState.inService else .waiting) ≠ .starting
      split <;> nofun
    · show (if m.cycle.due = .none then CycleState.inService else .waiting) ≠ s.cycle.state
      rw [hst]; split <;> nofun
  · have hmst : m.cycle.state = .isolating := hm.trans hst
    have hend : body s = m.setCycle (cycleIn .isolated m.cycle) := by
      rw [hbody (by rw [hst]; nofun) (by rw [hst]; nofun), onSettled, hmst]
      exact enterState_of_not_filtering (by rw [hmst]; rfl) _
    exact completes_change hs he hend nofun (by rw [hst]; nofun) fun t ht => ht
  · have hend : onSettled m = m := onSettled_of_washStep (hm ▸ hst)
    have hstart : s.cycle.state ≠ .starting := by rintro h; rw [h] at hst; cases hst
    have hlock : s.cycle.state ≠ .lockedOut := by rintro h; rw [h] at hst; cases hst
    exact he.trans (event_quiet_of_body hs ((hbody hstart hlock).trans hend) hm)

/-! ### A limit switch change -/

theorem takeSwitch_starting {v : ValveId} {p : Position} {level : Bool} {s : State}
    (hl : level ≠ ((s.valves.get v).switch p).level) (hs : s.cycle.state = .starting) :
    takeSwitch v p level s = s.setValves (s.valves.set v ((s.valves.get v).setSwitch p (.changeTo level))) := by
  unfold takeSwitch; simp only [if_neg hl, if_pos hs]

theorem takeSwitch_running {v : ValveId} {p : Position} {level : Bool} {s : State}
    (hl : level ≠ ((s.valves.get v).switch p).level) (hs : s.cycle.state ≠ .starting) :
    takeSwitch v p level s =
      channelEvent v (((s.valves.get v).setSwitch p (.changeTo level)).switchChanged p level) s := by
  unfold takeSwitch; simp only [if_neg hl, if_neg hs]

/-- The record that a change without a fault leaves of a channel, and the report it makes. -/
theorem Valve.switchChanged_record {c : Valve} {p : Position} {level : Bool} (hb : c.bothAsserted = false)
    (hs : c.state ≠ settledAt p) :
    (c.switchChanged p level).1 =
        { c with
          state :=
            if c.state = towards p ∧ level = true then settledAt p
            else if c.state = .stopped ∧ c.atLimit .opened = true then .opened
            else if c.state = .stopped ∧ c.atLimit .closed = true then .closed
            else c.state
          travel := if c.state = towards p ∧ level = true then 0 else c.travel
          pause := if c.state = towards p ∧ level = true then 0 else c.pause }
      ∧ (c.switchChanged p level).2 ≠ .fault := by
  rw [Valve.switchChanged_of_not_both hb fun h => absurd h hs]
  by_cases harrives : level = true ∧ c.state = towards p
  · rw [if_pos harrives, if_pos harrives.symm, if_pos harrives.symm, if_pos harrives.symm]
    exact ⟨rfl, nofun⟩
  · have harrives' : ¬ (c.state = towards p ∧ level = true) := fun h => harrives h.symm
    rw [if_neg harrives, if_neg harrives', if_neg harrives', if_neg harrives']
    split
    · exact ⟨rfl, nofun⟩
    · split
      · exact ⟨rfl, nofun⟩
      · exact ⟨rfl, nofun⟩

theorem Valve.switchChanged_arrived {c : Valve} {p : Position} (hb : c.bothAsserted = false)
    (hs : c.state = towards p) : c.switchChanged p true = (c.settleAt p, .confirmation) := by
  rw [Valve.switchChanged_of_not_both hb fun _ => rfl, if_pos ⟨rfl, hs⟩]

/-- A STOPPED channel at its closed switch resolves to CLOSED (R64). -/
theorem Valve.switchChanged_resolvesClosed {c : Valve} (hb : c.bothAsserted = false) (hs : c.state = .stopped)
    (hc : c.closedSwitch.level = true) : c.switchChanged .closed true = ({ c with state := .closed }, .none) := by
  have ho : c.openSwitch.level = false := by simpa [Valve.bothAsserted, hc] using hb
  rw [Valve.switchChanged_of_not_both hb fun _ => rfl]
  simp [hs, towards, Valve.atLimit, Valve.switch, Position.other, ho, hc]

/-- In LOCKED_OUT a waste valve that becomes CLOSED releases the HOLD where the other is CLOSED too (R104). -/
theorem wasteReport_becameClosed {v : ValveId} {a : ValveState} {s : State} (hl : s.cycle.state = .lockedOut)
    (ha : a ≠ .closed) :
    wasteReport v a .closed s =
      if isWaste v = true ∧ s.arb.claim.isHold = true ∧ s.valves.wasteClosed = true then releaseFinished s else s := by
  have hbecame : wasteBecameClosed s =
      if s.arb.claim.isHold = true ∧ s.valves.wasteClosed = true then releaseFinished s else s := by
    simp [wasteBecameClosed, hl]
  unfold wasteReport
  rw [if_neg (by simp : ¬ (decide (a = .closed) && (.closed : ValveState) != .closed) = true),
    if_pos (by simp [ha] : (a != .closed && decide ((.closed : ValveState) = .closed)) = true), hbecame]
  by_cases hv : isWaste v = true <;> simp [hv]

/-- Settles O27: by whether the channel arrives, resolves, or neither; and an arrival by whether it is the last. -/
theorem switchChangeSettlesOrResolves : Obligations.SwitchChangeSettlesOrResolves := by
  intro v p level s hs c c1 hl
  have hstate : c1.state = c.state := Valve.setSwitch_state _ _ _
  have htravel : c1.travel = c.travel := Valve.setSwitch_travel _ _ _
  have hpause : c1.pause = c.pause := Valve.setSwitch_pause _ _ _
  have hrunning : s.cycle.state ≠ .starting → takeSwitch v p level s = channelEvent v (c1.switchChanged p level) s :=
    takeSwitch_running hl
  refine ⟨fun hst => ?_, fun hst hb hne => ?_, fun hup hb hto hv => ?_, fun hup hp hb hstop hst => ?_⟩
  · exact ⟨_, event_quiet_of_body hs (takeSwitch_starting hl hst) rfl, rfl⟩
  · obtain ⟨hrecord, hreport⟩ := Valve.switchChanged_record (level := level) hb (hstate.symm ▸ hne)
    rw [hstate, htravel, hpause] at hrecord
    have hvalves : (takeSwitch v p level s).valves = s.valves.set v (c1.switchChanged p level).1 := by
      rw [hrunning hst]; exact channelEvent_valves hreport v s
    have hkeeps : Keeps s (takeSwitch v p level s) := by rw [hrunning hst]; exact keeps_channelEvent _ _ _
    refine completes_event hs rfl ?_
    have hk := hkeeps.trans (keeps_finish s.cycle.state false _)
    rw [(keepsPlant_finish _ _ _).valves, hvalves, hrecord]
    refine ⟨(Valves.get_set _ _ _ _).trans (if_pos rfl), fun other ho => (Valves.get_set _ _ _ _).trans (if_neg ho),
      hk.pins, hk.inputs, hk.peers, hk.req, hk.load⟩
  · subst hup
    have harrived := Valve.switchChanged_arrived hb (hstate.trans hto)
    rw [harrived] at hrunning
    refine ⟨fun hothers => ?_, fun hst hlock hother => ?_⟩
    · obtain ⟨hrecovering, hisolating, hwash⟩ :=
        completes_settled (cmd := .limitSwitchChange v p true) (m := settledBy v p c1 s) hs rfl rfl
          fun hst hlock => (hrunning hst).trans (channelEvent_arrives_last hto hlock hv hothers)
      exact ⟨hrecovering, hisolating, fun hst => ⟨settled_eq_false hv, confirmedBy_settled hothers, hwash hst⟩⟩
    · exact event_quiet_of_body hs ((hrunning hst).trans (channelEvent_arrives_alone hto hlock hother)) rfl
  · subst hup hp
    have hst' : s.cycle.state ≠ .starting := by rw [hst]; nofun
    have hresolves := Valve.switchChanged_resolvesClosed hb (hstate.trans hstop) rfl
    have hbefore : (s.valves.get v).state ≠ .closed := fun h => by cases hstop.symm.trans h
    have hbody : takeSwitch v .closed true s = _ :=
      (hrunning hst').trans ((congrArg (channelEvent v · s) hresolves).trans
        (wasteReport_becameClosed (s := s.setValves (s.valves.set v { c1 with state := .closed })) hst hbefore))
    constructor
    · intro h
      exact event_quiet_of_body hs (hbody.trans (if_pos h)) rfl
    · intro h
      exact event_quiet_of_body hs (hbody.trans (if_neg h)) rfl

/-! ### The end of a reversal pause -/

theorem Valve.endPause_of_towards {c : Valve} {p : Position} (h : c.state = towards p) :
    c.endPause = if c.atLimit p then (c.settleAt p, .confirmation) else (c.startDrive p, .none) := by
  unfold Valve.endPause; rw [h, towards_destination]

/-- A waste valve that is CLOSED neither before nor after reports nothing (R67). -/
theorem wasteReport_of_not_closed {a b : ValveState} (ha : a ≠ .closed) (hb : b ≠ .closed) (v : ValveId) (s : State) :
    wasteReport v a b s = s := by
  simp [wasteReport, ha, hb]

/-- Settles O28: by whether the channel stands at its target, and whether it is the last of its set. -/
theorem reversalPauseEndsInADriveOrASettlement : Obligations.ReversalPauseEndsInADriveOrASettlement := by
  intro v p s hs c hto hpause
  have hdue : c.pauseEnds = true := by simp [Valve.pauseEnds, hto, hpause]
  have hbody : whenDue (s.valves.get v).pauseEnds (pauseEnd v) s = channelEvent v c.endPause s := if_pos hdue
  rw [Valve.endPause_of_towards hto] at hbody
  refine ⟨fun hat => ?_, fun hat => ?_, fun hat hv hothers => ?_, fun hat hv hst hlock hother => ?_⟩
  · have hnot : towards p ≠ .closed := towards_ne_settledAt p .closed
    have hsame : channelChanged v (c.startDrive p) s = s.setValves (s.valves.set v (c.startDrive p)) :=
      wasteReport_of_not_closed (fun h => hnot (hto.symm.trans h)) hnot v _
    rw [hat, if_neg Bool.false_ne_true, channelEvent_none, hsame] at hbody
    exact ⟨_, event_quiet_of_body hs hbody rfl, rfl⟩
  · rw [hat, if_pos rfl] at hbody
    refine completes_event hs rfl ?_
    rw [(keepsPlant_finish _ _ _).valves, finish_cycle]
    show (whenDue (s.valves.get v).pauseEnds (pauseEnd v) s).valves.get v = _
      ∧ (whenDue (s.valves.get v).pauseEnds (pauseEnd v) s).cycle.confirmed.get v = true
    have hreport : ((c.settleAt p, .confirmation) : Valve × Report).2 ≠ .fault := nofun
    rw [hbody, channelEvent_valves hreport, channelEvent_confirmation]
    exact ⟨(Valves.get_set _ _ _ _).trans (if_pos rfl), valveConfirmed_confirmed _ _⟩
  · rw [hat, if_pos rfl] at hbody
    have hlast : s.cycle.state ≠ .lockedOut →
        whenDue (s.valves.get v).pauseEnds (pauseEnd v) s = onSettled (settledBy v p c s) :=
      fun hlock => hbody.trans (channelEvent_arrives_last hto hlock hv hothers)
    obtain ⟨hrecovering, hisolating, hwash⟩ :=
      completes_settled (cmd := .reversalPauseEnd v) (m := settledBy v p c s) hs rfl rfl fun _ => hlast
    refine ⟨fun o hst ho => ?_, hrecovering, hisolating,
      fun hst => ⟨settled_eq_false hv, confirmedBy_settled hothers, hwash hst⟩⟩
    have hf : s.cycle.state.filtering = false := by rw [hst]; rfl
    have hend : onSettled (settledBy v p c s) = completeWash o (settledBy v p c s) := by
      have hreturning : (settledBy v p c s).cycle.state = .returning := hst
      have houtcome : (settledBy v p c s).cycle.outcome = some o := ho
      rw [onSettled, hreturning, houtcome]; rfl
    refine completes_washCompleted (m := settledBy v p c s) hs rfl hf ?_ hf
    exact (hlast (by rw [hst]; nofun)).trans (hend.trans (completeWash_setLink o _).symm)
  · rw [hat, if_pos rfl, channelEvent_arrives_alone hto hlock hother] at hbody
    exact event_quiet_of_body hs hbody rfl

end Sys2Proof.Machine
end

section
/-! SUPPORT. A fault of a valve channel (R61 to R63) as the share arbiter and the cycle controller take it by the cycle
state (R20, R23, R27, R28, R97, R101): a lockout, RETURNING, or RECOVERING. -/

namespace Sys2Proof.Machine

/-! ### The share arbiter's part -/

/-- A fault of the channel makes a forced hold (R101): it is a waste valve that leaves CLOSED under no HOLD, outside a
wash. -/
def forcesHold (v : ValveId) (s : State) : Bool :=
  isWaste v && (s.valves.get v).state = .closed && !s.arb.claim.isHold && !s.cycle.state.washing

/-- A fault of the channel ends a contest (R97): one runs, and no forced hold has ended it already. -/
def withdraws (v : ValveId) (s : State) : Bool :=
  !forcesHold v s && s.cycle.state = .contest && s.arb.claim.isIntent

/-- `s` with channel `v` faulted as `d`, and the arbiter's part in it: a forced hold, or a contest withdrawn from. -/
def faultReported (v : ValveId) (d : Valve) (s : State) : State :=
  { s with
    valves := s.valves.set v d
    arb :=
      if forcesHold v s then heldByForce s.arb
      else if withdraws v s then { s.arb with claim := .none, windowTimer := 0 } else s.arb
    link :=
      if forcesHold v s then forcedLink s s.link
      else if withdraws v s then withdrawnLink s s.link else s.link }

theorem forcesHold_iff (v : ValveId) (s : State) :
    forcesHold v s = true ↔
      isWaste v = true ∧ (s.valves.get v).state = .closed ∧ s.arb.claim.isHold = false
        ∧ s.cycle.state.washing = false := by
  simp [forcesHold, and_assoc]

theorem withdraws_iff (v : ValveId) (s : State) :
    withdraws v s = true ↔ forcesHold v s = false ∧ s.cycle.state = .contest ∧ s.arb.claim.isIntent = true := by
  simp [withdraws, and_assoc]

/-- A waste valve that leaves CLOSED reports to the arbiter, which forces a hold or has one (R101). -/
theorem channelChanged_fault {v : ValveId} {d : Valve} {s : State} (hd : d.state ≠ .closed)
    (hs : s.cycle.state ≠ .starting) :
    channelChanged v d s =
      if forcesHold v s then takeHold 255 (s.setValves (s.valves.set v d)) else s.setValves (s.valves.set v d) := by
  unfold channelChanged
  cases hf : forcesHold v s with
  | true =>
    obtain ⟨hv, hstate, hhold, hwash⟩ := (forcesHold_iff v s).1 hf
    have hleft : wasteLeftClosed (s.setValves (s.valves.set v d)) = takeHold 255 (s.setValves (s.valves.set v d)) := by
      have hstates : (s.cycle.state = .starting || s.cycle.state.washStep || s.cycle.state = .returning) = false := by
        rw [Bool.or_assoc, decide_eq_false hs]; exact hwash
      unfold wasteLeftClosed
      rw [State.setValves_cycle, State.setValves_arb, hstates, hhold]; rfl
    unfold wasteReport
    rw [if_pos hv, if_pos (by simp [hstate, hd]), hleft]; rfl
  | false =>
    have hquiet : isWaste v = true → (s.valves.get v).state = .closed →
        wasteLeftClosed (s.setValves (s.valves.set v d)) = s.setValves (s.valves.set v d) := by
      intro hv hstate
      have hcase : s.cycle.state.washing = true ∨ s.arb.claim.isHold = true := by
        simpa [forcesHold, hv, hstate, Classical.or_iff_not_imp_right] using hf
      rcases hcase with hw | hh
      · exact wasteLeftClosed_of_washing hw
      · unfold wasteLeftClosed
        split
        · rfl
        · exact if_pos hh
    unfold wasteReport
    by_cases hv : isWaste v = true
    · rw [if_pos hv]
      by_cases hstate : (s.valves.get v).state = .closed
      · rw [if_pos (by simp [hstate, hd]), hquiet hv hstate]; rfl
      · rw [if_neg (by simp [hstate]), if_neg (by simp [hd])]; rfl
    · rw [if_neg hv]; rfl

/-- Out of CONTEST the arbiter's part is the forced hold alone. -/
theorem channelChanged_reported {v : ValveId} {d : Valve} {s : State} (hd : d.state ≠ .closed)
    (hs : s.cycle.state ≠ .starting) (hc : s.cycle.state ≠ .contest) :
    channelChanged v d s = faultReported v d s := by
  have hw : withdraws v s = false := by simp [withdraws, hc]
  rw [channelChanged_fault hd hs]; unfold faultReported; rw [hw]
  cases forcesHold v s <;> rfl

/-- In CONTEST an INTENT is withdrawn, where no forced hold has taken its place (R97). -/
theorem endContestAtFault_reported {v : ValveId} {d : Valve} {s : State} (hd : d.state ≠ .closed)
    (hc : s.cycle.state = .contest) : endContestAtFault (channelChanged v d s) = faultReported v d s := by
  rw [channelChanged_fault hd (by rw [hc]; nofun)]
  cases hf : forcesHold v s with
  | true => unfold faultReported; rw [hf]; rfl
  | false =>
    have hw : withdraws v s = s.arb.claim.isIntent := by simp [withdraws, hf, hc]
    have hi : (s.setValves (s.valves.set v d)).arb.claim.isIntent = s.arb.claim.isIntent := rfl
    unfold faultReported endContestAtFault; rw [hf, hw, if_neg Bool.false_ne_true, hi]
    cases s.arb.claim.isIntent <;> rfl

/-- Under the HOLD of a wash the arbiter takes no part (R86, R101). -/
theorem faultReported_of_washing {v : ValveId} {s : State} (h : s.cycle.state.washing = true) (d : Valve) :
    faultReported v d s = s.setValves (s.valves.set v d) := by
  have hf : forcesHold v s = false := by simp [forcesHold, h]
  have hw : withdraws v s = false := by
    have hc : s.cycle.state ≠ .contest := by rintro hc; rw [hc] at h; cases h
    simp [withdraws, hc]
  unfold faultReported; rw [hf, hw]; rfl

/-! ### The cycle controller's part -/

theorem valveFault_filtering {v : ValveId} {d : Valve} {s : State} (hd : d.state ≠ .closed)
    (h : s.cycle.state.filtering = true) :
    valveFault (channelChanged v d s) = enterRecovering (faultReported v d s) := by
  unfold valveFault; rw [channelChanged_cycle]
  cases hs : s.cycle.state with
  | inService | waiting =>
    rw [← channelChanged_reported hd (by rw [hs]; nofun) (by rw [hs]; nofun)]
  | contest => rw [← endContestAtFault_reported hd hs]
  | starting | recovering | drainDown | airScour | backwash | settle | rinse | returning | isolating | isolated
  | lockedOut => rw [hs] at h; cases h

theorem valveFault_washStep {v : ValveId} {d : Valve} {s : State} (hd : d.state ≠ .closed)
    (h : s.cycle.state.washStep = true) :
    valveFault (channelChanged v d s) = cutShort .cutShortValve (s.setValves (s.valves.set v d)) := by
  have hs : s.cycle.state ≠ .starting ∧ s.cycle.state ≠ .contest := by
    constructor <;> rintro hs <;> rw [hs] at h <;> cases h
  rw [channelChanged_reported hd hs.1 hs.2, faultReported_of_washing (by simp [CycleState.washing, h])]
  unfold valveFault; rw [State.setValves_cycle]
  cases hc : s.cycle.state with
  | drainDown | airScour | backwash | settle | rinse => rfl
  | starting | recovering | inService | waiting | contest | returning | isolating | isolated | lockedOut =>
    rw [hc] at h; cases h

/-- The states that a valve fault locks out (R27). -/
def CycleState.locksOut (c : CycleState) : Prop := c = .recovering ∨ c = .returning ∨ c = .isolating ∨ c = .isolated

theorem valveFault_locksOut {v : ValveId} {d : Valve} {s : State} (hd : d.state ≠ .closed)
    (h : s.cycle.state.locksOut) : valveFault (channelChanged v d s) = lockOut (faultReported v d s) := by
  have hs : s.cycle.state ≠ .starting ∧ s.cycle.state ≠ .contest := by
    constructor <;> rintro hs <;> rw [hs] at h <;> simp [CycleState.locksOut] at h
  rw [channelChanged_reported hd hs.1 hs.2]
  have hc : (faultReported v d s).cycle.state = s.cycle.state := rfl
  unfold valveFault; rw [hc]
  rcases h with h | h | h | h <;> rw [h]

theorem valveFault_lockedOut {v : ValveId} {d : Valve} {s : State} (hd : d.state ≠ .closed)
    (h : s.cycle.state = .lockedOut) : valveFault (channelChanged v d s) = faultReported v d s := by
  rw [channelChanged_reported hd (by rw [h]; nofun) (by rw [h]; nofun)]
  have hc : (faultReported v d s).cycle.state = s.cycle.state := rfl
  unfold valveFault; rw [hc, h]

/-! ### A lockout -/

/-- A wash record of the wash in RETURNING (R29). -/
def washRecord (s : State) (outcome : WashOutcome) : WashRecord :=
  { due := s.cycle.due, outcome := outcome, backwashSeconds := s.cycle.backwashSeconds,
    volume := s.cfg.washFlow * s.cycle.backwashSeconds / 360 }

/-- The cycle of a lockout: a LOCKED record of a wash in RETURNING, and none elsewhere (R27, R29). -/
def lockoutCycle (s : State) : Cycle :=
  cycleIn .lockedOut
    (if s.cycle.state = .returning then
      { s.cycle with
        records := (washRecord s .locked :: s.cycle.records).take 4, outcome := none, backwashSeconds := 0 }
     else s.cycle)

/-- A lockout keeps the due reason, the wait and the run seconds (R27). -/
theorem lockoutCycle_keeps (s : State) :
    (lockoutCycle s).due = s.cycle.due ∧ (lockoutCycle s).waitMinutes = s.cycle.waitMinutes
      ∧ (lockoutCycle s).runSeconds = s.cycle.runSeconds := by
  unfold lockoutCycle; split <;> exact ⟨rfl, rfl, rfl⟩

theorem lockoutCycle_records (s : State) :
    (lockoutCycle s).records =
      if s.cycle.state = .returning then (washRecord s .locked :: s.cycle.records).take 4 else s.cycle.records := by
  unfold lockoutCycle; split <;> rfl

/-- A HOLD is released at a lockout: every channel is stopped with both waste valves CLOSED (R104). -/
def releasesAtLockout (s : State) : Bool := s.arb.claim.isHold && (s.valves.map fun _ c => c.stop).wasteClosed

/-- `s` locked out (R27, R28, R104). -/
def inLockout (s : State) : State :=
  { s with
    cycle := lockoutCycle s
    valves := s.valves.map fun _ c => c.stop
    arb := if releasesAtLockout s then { s.arb with claim := .none, refreshTimer := 0 } else s.arb
    link := if releasesAtLockout s then releasedLink s s.link else s.link }

theorem lockOut_eq {s : State} (h : s.cycle.state.filtering = false) : lockOut s = inLockout s := by
  have hstopped : lockOut s =
      releaseAtLockout ((s.setCycle (lockoutCycle s)).setValves (s.valves.map fun _ c => c.stop)) := by
    unfold lockOut lockoutCycle
    split
    · dsimp only; rw [enterState_of_not_filtering (s := clearOutcome (addRecord .locked s)) h]; rfl
    · dsimp only; rw [enterState_of_not_filtering h]; rfl
  have hreleases : (s.arb.claim.isHold && (s.valves.map fun _ c => c.stop).wasteClosed) = releasesAtLockout s := rfl
  rw [hstopped]; unfold releaseAtLockout inLockout
  rw [State.setValves_arb, State.setCycle_arb, State.setValves_valves, hreleases]
  cases releasesAtLockout s <;> rfl

theorem inLockout_claim (s : State) :
    (inLockout s).arb.claim = if releasesAtLockout s then .none else s.arb.claim := by
  unfold inLockout; dsimp only; split <;> rfl

/-- A HOLD that a lockout leaves has a waste valve that is not CLOSED under it (R101, R104). -/
theorem inLockout_held {s : State} (h : (inLockout s).arb.claim.isHold = true) :
    (inLockout s).valves.wasteClosed = false := by
  rw [inLockout_claim] at h
  cases hr : releasesAtLockout s with
  | true => rw [hr] at h; cases h
  | false =>
    rw [hr] at h
    have hhold : s.arb.claim.isHold = true := h
    unfold releasesAtLockout at hr; rw [hhold] at hr; exact hr

/-- The channels stop, and one in FAULT stays as it is (R28, R59). -/
theorem inLockout_get (s : State) (v : ValveId) : (inLockout s).valves.get v = (s.valves.get v).stop :=
  Valves.get_map _ _ _

theorem Valve.enterFault_not_closed (c : Valve) (cause : FaultCause) : (c.enterFault cause).state ≠ .closed := nofun

/-! ### A fault as an event -/

/-- Command `cmd` at `s` is an event that, outside STARTING, faults channel `v` with a cause, its switches by then as
those of `c` (R61 to R63, R66). -/
def FaultEvent (cmd : Instr) (v : ValveId) (c : Valve) (cause : FaultCause) (s : State) : Prop :=
  ∃ body, exec cmd s = event false body s
    ∧ (s.cycle.state ≠ .starting → body s = valveFault (channelChanged v (c.enterFault cause) s))

theorem faultEvent_travelTimeout {v : ValveId} {s : State} (hd : (s.valves.get v).driven = true)
    (ht : s.cfg.travelTimeout * 100 ≤ (s.valves.get v).travel) :
    FaultEvent (.travelTimeout v) v (s.valves.get v) .travel s :=
  ⟨_, rfl, fun _ => if_pos (by simp [Valve.timedOut, hd, ht])⟩

theorem faultEvent_lost {v : ValveId} {p : Position} {s : State} (hstate : (s.valves.get v).state = settledAt p)
    (hl : ((s.valves.get v).switch p).level = true) :
    FaultEvent (.limitSwitchChange v p false) v ((s.valves.get v).setSwitch p (.changeTo false)) .lost s := by
  refine ⟨_, rfl, fun hs => ?_⟩
  have hb : ((s.valves.get v).setSwitch p (.changeTo false)).bothAsserted = false :=
    ((s.valves.get v).atLimit_setSwitch p false).2.2
  rw [takeSwitch_running (by rw [hl]; decide) hs,
    Valve.switchChanged_lost hb ((Valve.setSwitch_state _ _ _).trans hstate)]
  rfl

theorem faultEvent_switches {v : ValveId} {p : Position} {s : State} (hf : (s.valves.get v).state.isFault = false)
    (hl : ((s.valves.get v).switch p).level = false) (ho : ((s.valves.get v).switch p.other).level = true) :
    FaultEvent (.limitSwitchChange v p true) v ((s.valves.get v).setSwitch p (.changeTo true)) .switches s := by
  refine ⟨_, rfl, fun hs => ?_⟩
  have hb : ((s.valves.get v).setSwitch p (.changeTo true)).bothAsserted = true := by
    rw [((s.valves.get v).atLimit_setSwitch p true).2.2, ho]; rfl
  rw [takeSwitch_running (by rw [hl]; decide) hs, Valve.switchChanged_both hb, Valve.setSwitch_state, hf]
  rfl

section Fault

variable {cmd : Instr} {v : ValveId} {c : Valve} {cause : FaultCause} {s : State}

/-- In LOCKED_OUT the channel faults alone, but for a forced hold (R27, R101). -/
theorem FaultEvent.exec_lockedOut (h : FaultEvent cmd v c cause s) (hs : s.supplyOk = true)
    (hst : s.cycle.state = .lockedOut) :
    exec cmd s = .next ((faultReported v (c.enterFault cause) s).setLink
      (faultReported v (c.enterFault cause) s).link.take) := by
  obtain ⟨body, he, hbody⟩ := h
  have hend := (hbody (by rw [hst]; nofun)).trans (valveFault_lockedOut (c.enterFault_not_closed cause) hst)
  exact he.trans (event_quiet_of_body hs hend rfl)

/-- The event ends in a lockout, out of `u`: it completes with the STATUS of LOCKED_OUT. -/
theorem FaultEvent.completes_lockout (h : FaultEvent cmd v c cause s) (hs : s.supplyOk = true)
    (hne : s.cycle.state ≠ .starting) (hl : s.cycle.state ≠ .lockedOut) {u : State}
    (hu : valveFault (channelChanged v (c.enterFault cause) s) = lockOut u) {P : State → Prop}
    (hP : ∀ t, t = (lockOut u).setLink ((lockOut u).link.offer (statusFrame t)).take → P t) : completes cmd s P := by
  obtain ⟨body, he, hbody⟩ := h
  refine completes_change hs he ((hbody hne).trans hu) ?_ ?_ hP
  · rw [lockOut_state]; nofun
  · rw [lockOut_state]; exact hl.symm

end Fault

end Sys2Proof.Machine
end

section
/-! SUPPORT. A travel timeout and a lost position (R61, R63) by the cycle state: the lockout, the wash cut short, and
RECOVERING out of a filtering state. -/

namespace Sys2Proof.Machine

/-! ### A set commanded and not settled -/

/-- A state with a set is entered, no channel faulting and not every one standing in it already (R2). -/
theorem enterCommanding_unsettled {s : State} {new : CycleState} {set : ValveSet} (hb : noBothAsserted s = true)
    (hstand : standsAt set s = false) : enterCommanding new set s = commandSet set (enterState new s) := by
  have hset : (commandSet set (enterState new s)).settled = false := by
    unfold State.settled
    rw [commandSet_cycle, enterState_valves]
    exact (confirmations_all set s).trans hstand
  unfold enterCommanding
  simp only [commandFaults_of_noBothAsserted ((noBothAsserted_enterState new s).trans hb), hset]
  rfl

theorem Valve.command_target {c : Valve} (hb : c.bothAsserted = false) (p : Position) :
    (c.command p).1.target = some p := by
  rcases c.command_cases p with ⟨-, -, -, h⟩ | ⟨h, -⟩ | ⟨-, -, -, -, h⟩
  · exact h
  · cases hb.symm.trans h
  · exact h

/-- Every channel has its position in the commanded set as its target (R57). -/
theorem command_targets {s : State} (hb : noBothAsserted s = true) (set : ValveSet) (v : ValveId) :
    ((s.valves.command set).get v).target = some (set v) := by
  rw [Valves.get_command]
  exact Valve.command_target (by simpa using valves_all_iff.1 hb v) _

/-- A waste valve that stands where it is CLOSED leaves CLOSED at no command of the SERVICE set (R67). -/
theorem commandSet_service {s : State} (hl : s.cycle.state ≠ .lockedOut)
    (hclosed : ∀ w, (s.valves.get w).state = .closed → (s.valves.get w).atLimit .closed = true) :
    commandSet serviceSet s = commandedTo serviceSet s :=
  commandSet_of_closed hl fun w hw hstate => by
    refine ⟨?_, hclosed w hstate⟩
    cases w with
    | washOut | rinse => rfl
    | inlet | outlet | washIn | air => cases hw

theorem closedStand_iff (s : State) :
    closedStand s = true ↔ ∀ w, (s.valves.get w).state = .closed → (s.valves.get w).atLimit .closed = true := by
  have hor : ∀ a b : Bool, ((!a || b) = true) ↔ (a = true → b = true) := by decide
  unfold closedStand
  rw [valves_all_iff]
  refine forall_congr' fun w => ?_
  rw [show ((s.valves.get w).state != .closed) = !decide ((s.valves.get w).state = .closed) from rfl, hor,
    decide_eq_true_eq]

/-! ### The channels with one of them in FAULT -/

section Faulted

variable {v : ValveId} {c : Valve} {s : State}

/-- A fault changes the position of no channel. -/
theorem standsAt_enterFault (set : ValveSet) (cause : FaultCause) :
    standsAt set (s.setValves (s.valves.set v (c.enterFault cause))) = standsAt set (s.setValves (s.valves.set v c)) := by
  have hat : ∀ p, (c.enterFault cause).atLimit p = c.atLimit p := fun p => by cases p <;> rfl
  unfold standsAt
  refine congrArg ValveId.all.all (funext fun w => ?_)
  rw [State.setValves_valves, State.setValves_valves, Valves.get_set, Valves.get_set]
  split
  · exact hat _
  · rfl

theorem noBothAsserted_enterFault (hb : noBothAsserted s = true) (hc : c.bothAsserted = false) (cause : FaultCause) :
    noBothAsserted (s.setValves (s.valves.set v (c.enterFault cause))) = true :=
  valves_all_iff.2 fun w => by
    rw [State.setValves_valves, Valves.get_set, Bool.not_eq_true']
    split
    · exact hc
    · simpa using valves_all_iff.1 hb w

/-- A channel in FAULT is not CLOSED, and every other one stands where it is CLOSED as before. -/
theorem closedStand_enterFault (h : closedStand s = true) (cause : FaultCause) (w : ValveId)
    (hw : ((s.valves.set v (c.enterFault cause)).get w).state = .closed) :
    ((s.valves.set v (c.enterFault cause)).get w).atLimit .closed = true := by
  rw [Valves.get_set] at hw ⊢
  by_cases hwv : w = v
  · rw [if_pos hwv] at hw; cases hw
  · rw [if_neg hwv] at hw ⊢
    exact (closedStand_iff s).1 h w hw

end Faulted

/-! ### The event by the cycle state -/

section Fault

variable {cmd : Instr} {v : ValveId} {c : Valve} {cause : FaultCause} {s : State}

/-- A lockout by a fault out of RECOVERING, RETURNING, ISOLATING or ISOLATED (R27, R28, R29, R104). -/
theorem FaultEvent.locksOut (h : FaultEvent cmd v c cause s) (hs : s.supplyOk = true)
    (hst : s.cycle.state.locksOut) :
    completes cmd s fun t =>
      t.cycle.state = .lockedOut ∧ (∀ w, (t.valves.get w).state.travelling = false)
      ∧ (t.valves.get v).state = .fault cause ∧ t.cycle.due = s.cycle.due
      ∧ t.cycle.records =
          (if s.cycle.state = .returning then (washRecord s .locked :: s.cycle.records).take 4 else s.cycle.records)
      ∧ (t.arb.claim.isHold = true → t.valves.wasteClosed = false) := by
  have hf : (faultReported v (c.enterFault cause) s).cycle.state.filtering = false := by
    show s.cycle.state.filtering = false
    rcases hst with hst | hst | hst | hst <;> rw [hst] <;> rfl
  have hne : s.cycle.state ≠ .starting ∧ s.cycle.state ≠ .lockedOut := by
    rcases hst with hst | hst | hst | hst <;> rw [hst] <;> exact ⟨nofun, nofun⟩
  refine h.completes_lockout hs hne.1 hne.2 (valveFault_locksOut (c.enterFault_not_closed cause) hst) fun t ht => ?_
  rw [lockOut_eq hf] at ht
  generalize hu : faultReported v (c.enterFault cause) s = u at ht
  have hv : u.valves.get v = c.enterFault cause := by
    rw [← hu]; exact (Valves.get_set _ _ _ _).trans (if_pos rfl)
  have hcycle : u.cycle = s.cycle ∧ u.load = s.load := by rw [← hu]; exact ⟨rfl, rfl⟩
  obtain ⟨hdue, -, -⟩ := lockoutCycle_keeps u
  have hrecord : washRecord u .locked = washRecord s .locked := by
    unfold washRecord State.cfg; rw [hcycle.1, hcycle.2]
  have hrecords := lockoutCycle_records u
  rw [hrecord, hcycle.1] at hrecords
  obtain ⟨l, rfl⟩ : ∃ l, t = (inLockout u).setLink l := ⟨_, ht⟩
  refine ⟨rfl, fun w => ?_, ?_, hdue.trans (congrArg Cycle.due hcycle.1), hrecords, inLockout_held⟩
  · rw [State.setLink_valves, inLockout_get]; exact Valve.stop_not_travelling _
  · rw [State.setLink_valves, inLockout_get, hv]; rfl

/-- A wash step cut short by a fault, with every channel's position in it as before (R20, R21). -/
theorem FaultEvent.cutsShort (h : FaultEvent cmd v c cause s) (hb : noBothAsserted s = true)
    (hc : c.bothAsserted = false) (hst : s.cycle.state.washStep = true) :
    ∃ body, exec cmd s = event false body s
      ∧ body s =
          if standsAt serviceSet (s.setValves (s.valves.set v c)) then
            completeWash .cutShortValve
              (inReturning (cutShortAs .cutShortValve (s.setValves (s.valves.set v (c.enterFault cause)))))
          else inReturning (cutShortAs .cutShortValve (s.setValves (s.valves.set v (c.enterFault cause)))) := by
  obtain ⟨body, he, hbody⟩ := h
  have hne : s.cycle.state ≠ .starting := by rintro hn; rw [hn] at hst; cases hst
  refine ⟨body, he, (hbody hne).trans ((valveFault_washStep (c.enterFault_not_closed cause) hst).trans ?_)⟩
  rw [cutShort_cases (s := s.setValves (s.valves.set v (c.enterFault cause))) (CycleState.washStep_not_filtering hst)
    (noBothAsserted_enterFault hb hc cause), standsAt_enterFault]

/-- RECOVERING out of a filtering state by a fault, not every channel standing in the SERVICE set (R23, R24). -/
theorem FaultEvent.recovers (h : FaultEvent cmd v c cause s) (hb : noBothAsserted s = true)
    (hc : c.bothAsserted = false) (hst : s.cycle.state.filtering = true)
    (hstand : standsAt serviceSet (s.setValves (s.valves.set v c)) = false) :
    ∃ body, exec cmd s = event false body s
      ∧ body s = commandSet serviceSet (enterState .recovering (faultReported v (c.enterFault cause) s)) := by
  obtain ⟨body, he, hbody⟩ := h
  have hne : s.cycle.state ≠ .starting := by rintro hn; rw [hn] at hst; cases hst
  refine ⟨body, he, (hbody hne).trans ((valveFault_filtering (c.enterFault_not_closed cause) hst).trans ?_)⟩
  exact enterCommanding_unsettled (s := faultReported v (c.enterFault cause) s)
    (noBothAsserted_enterFault hb hc cause) ((standsAt_enterFault serviceSet cause).trans hstand)

theorem CycleState.recovering_ne_of_filtering {x : CycleState} (h : x.filtering = true) :
    CycleState.recovering ≠ x := by
  rintro rfl; cases h

/-- RECOVERING entered out of a filtering state holds dosing (R116). -/
theorem recovering_dose (hst : s.cycle.state.filtering = true) (set : ValveSet) :
    (commandSet set (enterState .recovering s)).dose = s.dose.holdOnExit := by
  have hfollows := (followsCycle_enterState .recovering s).trans (followsCycle_commandSet set _)
  rcases hfollows.dose with ⟨-, hf⟩ | hd
  · have hstate : (commandSet set (enterState .recovering s)).cycle.state = .recovering := by simp
    have := hf hst
    rw [hstate] at this; cases this
  · exact hd

/-- RECOVERING entered out of a filtering state, no waste valve reporting: the back-off of WAITING ends (R98), and dosing
is held. -/
theorem commandedTo_recovering (hst : s.cycle.state.filtering = true) (set : ValveSet) :
    commandedTo set (enterState .recovering s) =
      { s with
        cycle := { cycleIn .recovering s.cycle with confirmed := s.valves.confirmations set }
        valves := s.valves.command set
        arb := { s.arb with backoff := if s.cycle.state = .waiting then 0 else s.arb.backoff }
        dose := doseHeld s.dose } := by
  rw [enterState_eq, if_pos (by rw [hst]; rfl)]
  by_cases hw : s.cycle.state = .waiting
  · rw [if_pos (by rw [hw]; rfl), if_pos hw]; rfl
  · rw [if_neg (by simp [hw]), if_neg hw]; rfl

/-- The due reason and the wait are kept (R23), dosing is held (R116), and every channel is on its way to the SERVICE set or
at it. -/
theorem FaultEvent.recovers_dueKept (h : FaultEvent cmd v c cause s) (hs : s.supplyOk = true)
    (hb : noBothAsserted s = true) (hc : c.bothAsserted = false) (hst : s.cycle.state.filtering = true)
    (hstand : standsAt serviceSet (s.setValves (s.valves.set v c)) = false) :
    completes cmd s fun t =>
      t.cycle.state = .recovering ∧ t.cycle.due = s.cycle.due ∧ t.cycle.waitMinutes = s.cycle.waitMinutes
      ∧ t.cycle.waitSeconds = s.cycle.waitSeconds ∧ t.dose.interval = none ∧ t.dose.elapsed = 0
      ∧ ∀ w, (t.valves.get w).target = some (serviceSet w) := by
  obtain ⟨body, he, hbody⟩ := h.recovers hb hc hst hstand
  have hdose := recovering_dose (s := faultReported v (c.enterFault cause) s) hst serviceSet
  generalize hu : commandSet serviceSet (enterState .recovering (faultReported v (c.enterFault cause) s)) = u at *
  have hcycle : u.cycle = { cycleIn .recovering s.cycle with confirmed := u.cycle.confirmed } := by
    rw [← hu, commandSet_cycle, enterState_cycle]; rfl
  have hvalves : u.valves = (s.valves.set v (c.enterFault cause)).command serviceSet := by
    rw [← hu, commandSet_valves, enterState_valves]; rfl
  refine completes_change hs he hbody (by rw [hcycle]; nofun)
    (by rw [hcycle]; exact CycleState.recovering_ne_of_filtering hst) fun t ht => ?_
  obtain ⟨l, rfl⟩ : ∃ l, t = u.setLink l := ⟨_, ht⟩
  rw [State.setLink_cycle, State.setLink_dose, State.setLink_valves, hcycle, hdose, hvalves]
  exact ⟨rfl, rfl, rfl, rfl, rfl, rfl, command_targets (noBothAsserted_enterFault hb hc cause) serviceSet⟩

end Fault

/-- Settles O29: by the cycle state, a travel timeout and a lost position being one event of their channel. -/
theorem valveFaultMovesTheCycle : Obligations.ValveFaultMovesTheCycle := by
  intro v p cmd s hs hcmd c faulted cause after forced withdrawn
  have hevent : FaultEvent cmd v c cause s ∧ (noBothAsserted s = true → c.bothAsserted = false) := by
    rcases hcmd with ⟨rfl, hd, ht⟩ | ⟨rfl, hstate, hl⟩
    · have hc : c = s.valves.get v := if_pos rfl
      have hcause : cause = .travel := if_pos rfl
      rw [hc, hcause]
      exact ⟨faultEvent_travelTimeout hd ht, fun hb => by simpa using valves_all_iff.1 hb v⟩
    · have hc : c = (s.valves.get v).setSwitch p (.changeTo false) := if_neg nofun
      have hcause : cause = .lost := if_neg nofun
      rw [hc, hcause]
      exact ⟨faultEvent_lost hstate hl, fun _ => ((s.valves.get v).atLimit_setSwitch p false).2.2⟩
  obtain ⟨h, hboth⟩ := hevent
  have hforced : s.cycle.state.washing = false → (forcesHold v s = true ↔ forced) := fun hw => by
    rw [forcesHold_iff]; simp [forced, hw]
  refine ⟨h.locksOut hs, fun hst => ?_, fun hb hst hstand => ?_, fun hb hst hstand => ?_,
    fun hb hst hstand hclosed => ?_, fun hb hst hstand => ?_⟩
  · have hw : s.cycle.state.washing = false := by rw [hst]; rfl
    have hwith : withdraws v s = false := by simp [withdraws, hst]
    rw [h.exec_lockedOut hs hst]
    unfold faultReported
    simp only [hforced hw, hwith]
    by_cases hforce : forced
    · simp only [if_pos hforce]; rfl
    · simp only [if_neg hforce]; rfl
  · obtain ⟨body, he, hbody⟩ := h.cutsShort hb (hboth hb) hst
    rw [show standsAt serviceSet (s.setValves (s.valves.set v c)) = false from hstand,
      if_neg Bool.false_ne_true] at hbody
    refine completes_change hs he hbody nofun ?_ fun t ht => ?_
    · rintro (hn : CycleState.returning = s.cycle.state)
      rw [← hn] at hst; cases hst
    · obtain ⟨l, rfl⟩ : ∃ l, t = State.setLink _ l := ⟨_, ht⟩
      exact ⟨rfl, rfl, rfl, rfl, rfl, command_targets (noBothAsserted_enterFault hb (hboth hb) cause) serviceSet⟩
  · obtain ⟨body, he, hbody⟩ := h.cutsShort hb (hboth hb) hst
    rw [show standsAt serviceSet (s.setValves (s.valves.set v c)) = true from hstand, if_pos rfl,
      ← completeWash_setLink] at hbody
    exact completes_washCompletedAtOnce (m := cutShortAs .cutShortValve after) hs he hbody
      (CycleState.washStep_not_filtering hst)
  · obtain ⟨body, he, hbody⟩ := h.recovers hb (hboth hb) hst hstand
    have hw : s.cycle.state.washing = false := by
      rcases (CycleState.filtering_iff _).1 hst with hst | hst | hst <;> rw [hst] <;> rfl
    have hwithdrawn : ¬ forced → (withdraws v s = true ↔ withdrawn) := fun hforce => by
      rw [withdraws_iff, Bool.eq_false_iff, Ne, hforced hw]; simp [hforce, withdrawn]
    have hcmd := commandSet_service (s := enterState .recovering (faultReported v (c.enterFault cause) s)) (by simp)
      fun w => by rw [enterState_valves]; exact closedStand_enterFault hclosed cause w
    rw [hcmd, commandedTo_recovering (s := faultReported v (c.enterFault cause) s) hst] at hbody
    refine completes_change hs he hbody nofun (CycleState.recovering_ne_of_filtering hst) fun t ht => ht.trans ?_
    unfold faultReported
    by_cases hforce : forced
    · simp only [hforced hw, if_pos hforce]; rfl
    · simp only [hforced hw, hwithdrawn hforce, if_neg hforce]
      by_cases hwithdraw : withdrawn
      · simp only [if_pos hwithdraw]; rfl
      · simp only [if_neg hwithdraw]; rfl
  · exact h.recovers_dueKept hs hb (hboth hb) hst hstand

end Sys2Proof.Machine
end

section
/-! SUPPORT. A second asserted switch (R62): in FAULT it changes the cause alone; elsewhere the channel faults, no SERVICE
command of the same event can take that away (R57), and the station locks out by its cycle state (R20, R23, R27). -/

namespace Sys2Proof.Machine

/-! ### The claim after the fault -/

theorem faultReported_claim (v : ValveId) (d : Valve) (s : State) :
    (faultReported v d s).arb.claim =
      if forcesHold v s then .hold 255 else if withdraws v s then .none else s.arb.claim := by
  unfold faultReported; dsimp only
  split
  · rfl
  · split <;> rfl

/-- The claim is HOLD by the forced hold or as it was (R101). -/
theorem faultReported_isHold (v : ValveId) (d : Valve) (s : State) :
    (faultReported v d s).arb.claim.isHold = true ↔ forcesHold v s = true ∨ s.arb.claim.isHold = true := by
  rw [faultReported_claim]
  cases hf : forcesHold v s with
  | true => simp [OwnClaim.isHold]
  | false =>
    cases hw : withdraws v s with
    | true =>
      have hi := ((withdraws_iff v s).1 hw).2.2
      have hn : s.arb.claim.isHold ≠ true := fun hh => by
        rw [OwnClaim.isIntent_of_isHold hh] at hi; cases hi
      have hnone : OwnClaim.none.isHold = false := rfl
      simp [hn, hnone]
    | false => simp

/-! ### The lockout -/

/-- `u` is the state out of which the station locks out, channel `v` having faulted at `s` as `d` (R20, R23, R27): the
arbiter has taken its part, a wash is in RETURNING, and dosing is held out of a filtering state. -/
structure LocksOutFrom (v : ValveId) (d : Valve) (s u : State) : Prop where
  fault       : valveFault (channelChanged v d s) = lockOut u
  idle        : u.cycle.state.filtering = false
  channel     : u.valves.get v = d
  keeps       : Keeps s u
  scan        : u.scan = s.scan
  due         : u.cycle.due = s.cycle.due
  waitMinutes : u.cycle.waitMinutes = s.cycle.waitMinutes
  runSeconds  : u.cycle.runSeconds = s.cycle.runSeconds
  records     : u.cycle.records = s.cycle.records
  returning   : u.cycle.state = .returning ↔ s.cycle.state.washing = true
  seconds     : u.cycle.backwashSeconds =
    if s.cycle.state = .backwash then s.cycle.stepTimer / 100 else s.cycle.backwashSeconds
  claim       : u.arb.claim = (faultReported v d s).arb.claim
  link        : u.link = (faultReported v d s).link
  dose        : u.dose = if s.cycle.state.filtering then doseHeld s.dose else s.dose

section Stuck

variable {v : ValveId} {c : Valve} {s : State}

/-- A command leaves a channel in FAULT with both switches asserted as it is (R57, case 2). -/
theorem Valve.command_stuck (hb : c.bothAsserted = true) (p : Position) :
    ((c.enterFault .switches).command p).1 = c.enterFault .switches := by
  rw [Valve.command_of_bothAsserted (c := c.enterFault .switches) hb]; rfl

theorem commandFaults_stuck (hb : c.bothAsserted = true) (set : ValveSet) :
    (s.valves.set v (c.enterFault .switches)).commandFaults set = true :=
  Valves.commandFaults_of_bothAsserted (v := v) (by rw [Valves.get_set, if_pos rfl]; exact hb) set

theorem get_command_stuck (hb : c.bothAsserted = true) (set : ValveSet) :
    ((s.valves.set v (c.enterFault .switches)).command set).get v = c.enterFault .switches := by
  rw [Valves.get_command, Valves.get_set, if_pos rfl]; exact Valve.command_stuck hb _

/-- RECOVERING, RETURNING, ISOLATING and ISOLATED lock out at the fault itself (R27). -/
theorem locksOutFrom_locksOut (h : s.cycle.state.locksOut) :
    LocksOutFrom v (c.enterFault .switches) s (faultReported v (c.enterFault .switches) s) := by
  have hstate : s.cycle.state ≠ .backwash ∧ s.cycle.state.filtering = false
      ∧ (s.cycle.state = .returning ↔ s.cycle.state.washing = true) := by
    rcases h with h | h | h | h <;> rw [h] <;> decide
  exact
    { fault := valveFault_locksOut (c.enterFault_not_closed _) h, idle := hstate.2.1
      channel := (Valves.get_set _ _ _ _).trans (if_pos rfl)
      keeps := ⟨rfl, rfl, rfl, rfl, rfl, rfl, rfl, rfl, rfl⟩
      scan := rfl, due := rfl, waitMinutes := rfl, runSeconds := rfl, records := rfl, returning := hstate.2.2
      seconds := (if_neg hstate.1).symm, claim := rfl, link := rfl
      dose := by rw [hstate.2.1]; rfl }

/-- A state with a set is entered, and locked out of as a channel faults at its command (R27). -/
theorem enterCommanding_stuck {w : State} {new : CycleState} {set : ValveSet}
    (hf : w.valves.commandFaults set = true) :
    enterCommanding new set w = lockOut (commandSet set (enterState new w)) := by
  unfold enterCommanding; simp only [enterState_valves, hf]; rfl

/-- A filtering state is left for RECOVERING, and that for the lockout (R23, R27). -/
theorem locksOutFrom_filtering (hb : c.bothAsserted = true) (hclosed : closedStand s = true)
    (h : s.cycle.state.filtering = true) :
    ∃ u, LocksOutFrom v (c.enterFault .switches) s u := by
  have hcmd := commandSet_service (s := enterState .recovering (faultReported v (c.enterFault .switches) s)) (by simp)
    fun w => by rw [enterState_valves]; exact closedStand_enterFault hclosed .switches w
  have hlock : enterRecovering (faultReported v (c.enterFault .switches) s) = _ :=
    enterCommanding_stuck (commandFaults_stuck hb serviceSet)
  rw [hcmd, commandedTo_recovering (s := faultReported v _ s) h] at hlock
  have hstate : s.cycle.state ≠ .backwash ∧ s.cycle.state.washing = false := by
    rcases (CycleState.filtering_iff _).1 h with h | h | h <;> rw [h] <;> decide
  exact ⟨_,
    { fault := (valveFault_filtering (c.enterFault_not_closed _) h).trans hlock, idle := rfl
      channel := get_command_stuck hb serviceSet
      keeps := ⟨rfl, rfl, rfl, rfl, rfl, rfl, rfl, rfl, rfl⟩
      scan := rfl, due := rfl, waitMinutes := rfl, runSeconds := rfl, records := rfl
      returning := ⟨nofun, fun hw => by cases hstate.2.symm.trans hw⟩
      seconds := (if_neg hstate.1).symm, claim := rfl, link := rfl
      dose := by rw [h]; rfl }⟩

theorem enterReturning_stuck {w : State} (hidle : w.cycle.state.filtering = false)
    (hf : w.valves.commandFaults serviceSet = true) : enterReturning w = lockOut (inReturning w) := by
  have hlock : enterReturning w = _ := enterCommanding_stuck hf
  rwa [commandSet_of_washing (by rw [enterState_cycle]; rfl), enterState_of_not_filtering hidle] at hlock

/-- A wash step is cut short into RETURNING, and that left for the lockout (R20, R27). -/
theorem locksOutFrom_washStep (hb : c.bothAsserted = true) (h : s.cycle.state.washStep = true) :
    LocksOutFrom v (c.enterFault .switches) s
      (inReturning (cutShortAs .cutShortValve (s.setValves (s.valves.set v (c.enterFault .switches))))) := by
  have hw : s.cycle.state.washing = true := by simp [CycleState.washing, h]
  have hf : s.cycle.state.filtering = false := CycleState.washStep_not_filtering h
  have hreported := faultReported_of_washing (v := v) hw (c.enterFault .switches)
  have hcut := (cutShort_eq .cutShortValve (s.setValves (s.valves.set v (c.enterFault .switches)))).trans
    (enterReturning_stuck hf (commandFaults_stuck hb serviceSet))
  exact
    { fault := (valveFault_washStep (c.enterFault_not_closed _) h).trans hcut, idle := rfl
      channel := get_command_stuck hb serviceSet
      keeps := ⟨rfl, rfl, rfl, rfl, rfl, rfl, rfl, rfl, rfl⟩
      scan := rfl, due := rfl, waitMinutes := rfl, runSeconds := rfl, records := rfl
      returning := ⟨fun _ => hw, fun _ => rfl⟩
      seconds := rfl
      claim := by rw [hreported]; rfl
      link := by rw [hreported]; rfl
      dose := by rw [hf]; rfl }

/-- Wherever the channel faults outside STARTING and LOCKED_OUT, the station locks out at that event. -/
theorem exists_locksOutFrom (hb : c.bothAsserted = true) (hclosed : closedStand s = true)
    (hs : s.cycle.state ≠ .starting) (hl : s.cycle.state ≠ .lockedOut) :
    ∃ u, LocksOutFrom v (c.enterFault .switches) s u := by
  cases hst : s.cycle.state with
  | starting => exact absurd hst hs
  | lockedOut => exact absurd hst hl
  | recovering | returning | isolating | isolated =>
    exact ⟨_, locksOutFrom_locksOut (by rw [hst]; simp [CycleState.locksOut])⟩
  | inService | waiting | contest => exact locksOutFrom_filtering hb hclosed (by rw [hst]; rfl)
  | drainDown | airScour | backwash | settle | rinse => exact ⟨_, locksOutFrom_washStep hb (by rw [hst]; rfl)⟩

end Stuck

/-! ### What the lockout leaves -/

section Left

variable {v : ValveId} {d : Valve} {s u : State}

/-- The record of the wash, and the outcome and the backwash seconds cleared with it (R27, R29). -/
theorem LocksOutFrom.wash (h : LocksOutFrom v d s u) :
    (lockoutCycle u).records =
        (if s.cycle.state.washing then
          ({ due := s.cycle.due, outcome := .locked, backwashSeconds := u.cycle.backwashSeconds,
             volume := s.cfg.washFlow * u.cycle.backwashSeconds / 360 } :: s.cycle.records).take 4
         else s.cycle.records)
      ∧ (s.cycle.state.washing = true → (lockoutCycle u).outcome = none ∧ (lockoutCycle u).backwashSeconds = 0) := by
  have hrecord : washRecord u .locked =
      { due := s.cycle.due, outcome := .locked, backwashSeconds := u.cycle.backwashSeconds,
        volume := s.cfg.washFlow * u.cycle.backwashSeconds / 360 } := by
    unfold washRecord State.cfg; rw [h.keeps.load, h.due]
  refine ⟨?_, fun hw => ?_⟩
  · rw [lockoutCycle_records, hrecord, h.records]
    exact if_congr h.returning rfl rfl
  · unfold lockoutCycle; rw [if_pos (h.returning.2 hw)]; exact ⟨rfl, rfl⟩

/-- The HOLD that stands after the fault is released at the lockout exactly where both waste valves are CLOSED after it
(R104). -/
theorem LocksOutFrom.releases_iff (h : LocksOutFrom v d s u) :
    releasesAtLockout u = true ↔
      (forcesHold v s = true ∨ s.arb.claim.isHold = true) ∧ (inLockout u).valves.wasteClosed = true := by
  have hr : releasesAtLockout u = (u.arb.claim.isHold && (inLockout u).valves.wasteClosed) := rfl
  rw [hr, Bool.and_eq_true, h.claim, faultReported_isHold]

/-- The link after the lockout: RELEASE(FINISHED) after what the arbiter has offered, where the HOLD is released. -/
theorem LocksOutFrom.link_eq (h : LocksOutFrom v d s u) :
    (inLockout u).link =
      if releasesAtLockout u then releasedLink s (faultReported v d s).link else (faultReported v d s).link := by
  have hlink : (inLockout u).link = if releasesAtLockout u then releasedLink u u.link else u.link := rfl
  rw [hlink, releasedLink_congr h.keeps.load, h.link]

/-- A HOLD stands through the lockout under a waste valve that is not CLOSED (R101). -/
theorem LocksOutFrom.claim_held (h : LocksOutFrom v d s u)
    (hhold : forcesHold v s = true ∨ s.arb.claim.isHold = true) (hwaste : (inLockout u).valves.wasteClosed = false) :
    (inLockout u).arb.claim = if forcesHold v s then .hold 255 else s.arb.claim := by
  have hstays : ¬ releasesAtLockout u = true := fun hr => by cases hwaste.symm.trans (h.releases_iff.1 hr).2
  rw [inLockout_claim, if_neg hstays, h.claim, faultReported_claim]
  by_cases hf : forcesHold v s = true
  · rw [if_pos hf, if_pos hf]
  · have hw : ¬ withdraws v s = true := fun hw => by
      have hi := OwnClaim.isIntent_of_isHold (hhold.resolve_left hf)
      cases hi.symm.trans ((withdraws_iff v s).1 hw).2.2
    rw [if_neg hf, if_neg hf, if_neg hw]

/-- A HOLD released, or an INTENT withdrawn, leaves NONE (R97, R104). -/
theorem LocksOutFrom.claim_ended (h : LocksOutFrom v d s u)
    (hends : releasesAtLockout u = true ∨ withdraws v s = true) : (inLockout u).arb.claim = .none := by
  rw [inLockout_claim]
  by_cases hr : releasesAtLockout u = true
  · exact if_pos hr
  · have hw := hends.resolve_left hr
    have hf : ¬ forcesHold v s = true := fun hf => by cases hf.symm.trans ((withdraws_iff v s).1 hw).1
    rw [if_neg hr, h.claim, faultReported_claim, if_neg hf, if_pos hw]

/-- Every other claim is kept. -/
theorem LocksOutFrom.claim_kept (h : LocksOutFrom v d s u)
    (hhold : ¬ (forcesHold v s = true ∨ s.arb.claim.isHold = true)) (hw : ¬ withdraws v s = true) :
    (inLockout u).arb.claim = s.arb.claim := by
  have hstays : ¬ releasesAtLockout u = true := fun hr => hhold (h.releases_iff.1 hr).1
  rw [inLockout_claim, if_neg hstays, h.claim, faultReported_claim, if_neg fun hf => hhold (.inl hf), if_neg hw]

end Left

/-- Settles O30: in FAULT the cause alone, in LOCKED_OUT the fault alone, and elsewhere the lockout out of the state that
the fault leads to. -/
theorem secondSwitchFaultsTheChannel : Obligations.SecondSwitchFaultsTheChannel := by
  intro v p s hs hst hclosed hl ho c m cmd wash forced withdrawn seconds
  have hb : ((s.valves.get v).setSwitch p (.changeTo true)).bothAsserted = true := by
    rw [((s.valves.get v).atLimit_setSwitch p true).2.2, ho]; rfl
  have hwash : s.cycle.state.washing = true ↔ wash := by simp [CycleState.washing, wash]
  have hforced : forcesHold v s = true ↔ forced := by
    rw [forcesHold_iff, ← Bool.not_eq_true s.cycle.state.washing, hwash]
  have hwithdrawn : withdraws v s = true ↔ withdrawn := by
    rw [withdraws_iff, ← Bool.not_eq_true (forcesHold v s), hforced]
  refine ⟨fun hf => ?_, fun hf hlock => ?_, fun hf hlock => ?_⟩
  · have hbefore : (s.valves.get v).state ≠ .closed := fun h => by rw [h] at hf; cases hf
    have hbody : takeSwitch v p true s = m := by
      rw [takeSwitch_running (by rw [hl]; decide) hst, Valve.switchChanged_both hb, Valve.setSwitch_state, hf, if_pos rfl,
        channelEvent_none]
      exact wasteReport_of_not_closed (b := .fault .switches) hbefore nofun v m
    exact event_quiet_of_body hs hbody rfl
  · rw [(faultEvent_switches hf hl ho).exec_lockedOut hs hlock]
    have hwith : withdraws v s = false := by simp [withdraws, hlock]
    unfold faultReported
    simp only [hforced, hwith]
    by_cases hforce : forced
    · simp only [if_pos hforce]; rfl
    · simp only [if_neg hforce]; rfl
  · obtain ⟨u, hu⟩ := exists_locksOutFrom (v := v) hb hclosed hst hlock
    refine (faultEvent_switches hf hl ho).completes_lockout hs hst hlock hu.fault fun t ht => ?_
    rw [lockOut_eq hu.idle] at ht
    obtain ⟨l, rfl⟩ : ∃ l, t = (inLockout u).setLink l := ⟨_, ht⟩
    obtain ⟨hrecords, hcleared⟩ := hu.wash
    obtain ⟨hdue, hwait, hrun⟩ := lockoutCycle_keeps u
    have hreleases := hu.releases_iff
    have hheld := hu.claim_held
    have hended := hu.claim_ended
    have hkept := hu.claim_kept
    have hlink := hu.link_eq
    unfold faultReported at hlink
    simp only [hforced, hwithdrawn] at hreleases hheld hended hkept hlink
    refine ⟨rfl, ?_, fun w => ?_, hdue.trans hu.due, hwait.trans hu.waitMinutes, hrun.trans hu.runSeconds, ?_,
      fun hw => hcleared (hwash.2 hw), fun hholds => hheld hholds.1 hholds.2,
      fun hends => hended (hends.imp_left hreleases.2), fun hh hr hw => hkept (fun hhold => ?_) hw, ?_, hu.dose,
      hu.keeps.pins, hu.keeps.inputs, hu.scan, hu.keeps.peers, hu.keeps.req, hu.keeps.load⟩
    · rw [State.setLink_valves, inLockout_get, hu.channel]; rfl
    · rw [State.setLink_valves, inLockout_get]; exact Valve.stop_not_travelling _
    · rw [hu.seconds] at hrecords
      exact hrecords.trans (if_congr hwash rfl rfl)
    · cases hwaste : (inLockout u).valves.wasteClosed with
      | true => exact hr ⟨hhold, hwaste⟩
      | false => exact hh ⟨hhold, hwaste⟩
    · refine (congrArg State.link ht).trans ?_
      rw [hlink]
      exact congrArg (fun l => (Link.offer l _).take) (if_congr hreleases rfl rfl)

end Sys2Proof.Machine
end
